-- ==== Sys2Proof/Word.lean ====
section
/-! DEFINITION. The plain types every file shares: bytes, time readings, stamps, doorways, sides and
the containers "one per doorway" and "one per side". -/

namespace Sys2Proof

/-- The eight data bits of a link byte (08, section 8.2). -/
abbrev Byte := BitVec 8

/-- A reading of the time base: milliseconds in 32 bits (00, "Time"). -/
abbrev Time := BitVec 32

/-- A demand stamp: the value of the 16-bit demand counter (R70). -/
abbrev Stamp := BitVec 16

/-- The eight doorways D1 to D8 (00, "Doorways and sides"). -/
inductive Doorway where
  | D1 | D2 | D3 | D4 | D5 | D6 | D7 | D8
deriving DecidableEq, Repr

/-- The two sides of the car. -/
inductive Side where
  | A | B
deriving DecidableEq, Repr

/-- The three link ports (R139). -/
inductive Port where
  | car | platform | service
deriving DecidableEq, Repr

/-- One value per doorway. -/
structure PerDoorway (α : Type) where
  d1 : α
  d2 : α
  d3 : α
  d4 : α
  d5 : α
  d6 : α
  d7 : α
  d8 : α
deriving DecidableEq, Repr

/-- One value per side. -/
structure PerSide (α : Type) where
  a : α
  b : α
deriving DecidableEq, Repr

/-- Ascending doorway order: D1 first, D8 last (00, "Doorways and sides"). -/
def Doorway.all : List Doorway := [.D1, .D2, .D3, .D4, .D5, .D6, .D7, .D8]

/-- The doorway's number, 1 to 8. -/
def Doorway.number : Doorway → Nat
  | .D1 => 1 | .D2 => 2 | .D3 => 3 | .D4 => 4 | .D5 => 5 | .D6 => 6 | .D7 => 7 | .D8 => 8

/-- Side A holds D1 to D4, side B D5 to D8. -/
def Doorway.side : Doorway → Side
  | .D1 | .D2 | .D3 | .D4 => .A
  | .D5 | .D6 | .D7 | .D8 => .B

/-- The four doorways of a side in ascending order. -/
def Side.doorways : Side → List Doorway
  | .A => [.D1, .D2, .D3, .D4]
  | .B => [.D5, .D6, .D7, .D8]

def PerDoorway.get {α : Type} (v : PerDoorway α) : Doorway → α
  | .D1 => v.d1 | .D2 => v.d2 | .D3 => v.d3 | .D4 => v.d4
  | .D5 => v.d5 | .D6 => v.d6 | .D7 => v.d7 | .D8 => v.d8

def PerDoorway.set {α : Type} (v : PerDoorway α) (d : Doorway) (x : α) : PerDoorway α :=
  match d with
  | .D1 => { v with d1 := x }
  | .D2 => { v with d2 := x }
  | .D3 => { v with d3 := x }
  | .D4 => { v with d4 := x }
  | .D5 => { v with d5 := x }
  | .D6 => { v with d6 := x }
  | .D7 => { v with d7 := x }
  | .D8 => { v with d8 := x }

/-- The same value at every doorway. -/
def PerDoorway.const {α : Type} (x : α) : PerDoorway α := ⟨x, x, x, x, x, x, x, x⟩

def PerSide.get {α : Type} (v : PerSide α) : Side → α
  | .A => v.a | .B => v.b

def PerSide.set {α : Type} (v : PerSide α) (i : Side) (x : α) : PerSide α :=
  match i with
  | .A => { v with a := x }
  | .B => { v with b := x }

/-- The same value at both sides. -/
def PerSide.const {α : Type} (x : α) : PerSide α := ⟨x, x⟩

end Sys2Proof
end

