-- ==== Sys2Proof/Config.lean ====
section
/-! DEFINITION. What the part fixes: the constants of the chapters, and the settings records of
chapter 10 with their defaults. The manual leaves no computed value open, so there is no opaque
constant here (INVENTORY, "What the manual leaves open"). -/

namespace Sys2Proof

/-- StallTime, fixed (R39), ms. -/
def Config.stallTime : Nat := 300
/-- The loop monitor's settling time, fixed (R114), ms. -/
def Config.loopSettle : Nat := 50
/-- The length of one loop test step (R118, R119), ms. -/
def Config.testStep : Nat := 20
/-- The good-frame deadline, fixed (R160), ms. -/
def Config.goodFrame : Nat := 300
/-- The longest store write (R171), ms. -/
def Config.saveLimit : Nat := 200
/-- The depth of each supply queue (R94). -/
def Config.queueDepth : Nat := 6
/-- The depth of a response queue (R139). -/
def Config.responseDepth : Nat := 2
/-- The length of an obstruction history (R51). -/
def Config.historyDepth : Nat := 8
/-- The highest value of a command-status count, a monitor events count and an overflow count. -/
def Config.countLimit : Nat := 255
/-- The number of segments of a stroke (R32). -/
def Config.segments : Nat := 32
/-- The lock window: p at most this (01, section 1.2), mm. -/
def Config.lockWindow : Nat := 3
/-- The greatest change of a plausible reading (R4), mm. -/
def Config.changeLimit : Nat := 50
/-- A reading up to this far beyond Lstroke is taken as Lstroke (R3), mm. -/
def Config.seatLimit : Nat := 20
/-- The open position lies this far below Lstroke (01, section 1.2), mm. -/
def Config.openMargin : Nat := 5
/-- A bound on the grants that one grant decision makes, nested decisions included. At most three
grants per doorway can end at once before the doorway waits or moves, so 24 are enough (log 9).
DEDUCED. -/
def Config.decisionFuel : Nat := 40

/-- The loop test pattern: A5h followed by C3h, most significant bit first (R119). -/
def Config.testPattern : List Bool :=
  [true, false, true, false, false, true, false, true,
   true, true, false, false, false, false, true, true]

/-- A doorway profile (R169), in the field order of section 11.5. -/
structure Profile where
  lstroke : Nat
  pz : Nat
  countsPerMm : Nat
  vopen : Nat
  vclose : Nat
  vplug : Nat
  vfloor : Nat
  elim : Nat
  mass : Nat
  ioff : Nat
  gain : Nat
  mrun : Nat
  mplug : Nat
  fabsRun : Nat
  fabsPlug : Nat
  kSamples : Nat
  edgeMute : Nat
  dro : Nat
  reopenPause : Nat
  kmax : Nat
  unlockTime : Nat
  lockTime : Nat
  tclose : Nat
  rinit : Nat
  learnEnable : Bool
deriving DecidableEq, Repr

/-- The default profile, the same for all eight doorways (R169). -/
def Profile.default : Profile :=
  { lstroke := 720, pz := 64, countsPerMm := 8, vopen := 500, vclose := 400, vplug := 120,
    vfloor := 100, elim := 10000, mass := 60, ioff := 800, gain := 16, mrun := 60, mplug := 180,
    fabsRun := 250, fabsPlug := 450, kSamples := 4, edgeMute := 15, dro := 250,
    reopenPause := 1000, kmax := 3, unlockTime := 400, lockTime := 300, tclose := 6000,
    rinit := 80, learnEnable := true }

/-- The nine car settings (R168), in the field order of section 11.5. -/
structure CarSettings where
  allowance : Nat
  reserve : Nat
  aopen : Nat
  aclose : Nat
  areopen : Nat
  grantLate : Nat
  holdLimit : Nat
  carSilence : Nat
  silentCloseDelay : Nat
deriving DecidableEq, Repr

/-- The default car settings (R168). -/
def CarSettings.default : CarSettings :=
  { allowance := 200, reserve := 50, aopen := 40, aclose := 35, areopen := 45,
    grantLate := 1500, holdLimit := 8000, carSilence := 1000, silentCloseDelay := 60 }

end Sys2Proof
end

