-- ==== Sys2Proof/Syntax.lean ====
section
/-! DEFINITION. The commands of the block: one constructor of `Instr` per row of
spec/opcode_table.json, with the row's operands.

A command of a link is spelled by the port it arrives on and by the parameter bytes that follow its
command byte. The list may be shorter than the command's parameters (the rest may come later as
STRAY_PARAMETER_BYTE rows, or be cut off by BREAK) or longer (the surplus bytes are parameter bytes
that arrive with no command to belong to). DESIGN CHOICE, log 5. -/

namespace Sys2Proof

/-- The input levels of one doorway as the part last took them (R150, "Inputs as last taken"), and
the position sensor's present count (R3, R126). -/
structure DoorInputs where
  lockLocked : Bool
  edgePressed : Bool
  handleOperated : Bool
  isolationOperated : Bool
  overcurrent : Bool
  sensorCount : Nat
deriving DecidableEq, Repr

/-- The level of every input of the part: the operand of POWER_ON (R173). -/
structure InputLevels where
  zeroSpeed : Bool
  supplyHealthy : Bool
  loopClosed : PerSide Bool
  doors : PerDoorway DoorInputs
deriving DecidableEq, Repr

/-- The commands and events of the part (spec/opcode_table.json). -/
inductive Instr where
  /-- POWER_ON (R173) with the input levels found. -/
  | powerOn (levels : InputLevels)
  /-- SUPPLY_LOSS (R105). -/
  | supplyLoss
  /-- SUPPLY_RESTORE (R107). -/
  | supplyRestore
  /-- ZERO_SPEED_LOSS (R87). -/
  | zeroSpeedLoss
  /-- ZERO_SPEED_REGAIN (R88). -/
  | zeroSpeedRegain
  /-- POSITION_READING (R3): the sensor's count, a natural number of any size (log 27). -/
  | positionReading (d : Doorway) (count : Nat)
  /-- CURRENT_SAMPLE (R31): the current in mA, an integer of either sign (log 27). -/
  | currentSample (d : Doorway) (current : Int)
  /-- LOCK_SWITCH_CHANGE (R18): the switch now reads locked or not. -/
  | lockSwitchChange (d : Doorway) (locked : Bool)
  /-- EDGE_CHANGE (R37): the edge now reads pressed or not. -/
  | edgeChange (d : Doorway) (pressed : Bool)
  /-- EMERGENCY_HANDLE_OPERATED (R128). -/
  | emergencyHandleOperated (d : Doorway)
  /-- EMERGENCY_HANDLE_RESTORED (R129). -/
  | emergencyHandleRestored (d : Doorway)
  /-- ISOLATION_OPERATED (R130). -/
  | isolationOperated (d : Doorway)
  /-- ISOLATION_RESTORED (R131). -/
  | isolationRestored (d : Doorway)
  /-- DRIVE_OVERCURRENT (R137): the input rises. -/
  | driveOvercurrent (d : Doorway)
  /-- LOOP_RETURN_CHANGE (R114): the side's return now reads CLOSED or not. -/
  | loopReturnChange (i : Side) (closed : Bool)
  /-- UNLOCK_TIMER_EXPIRY (R12). -/
  | unlockTimerExpiry (d : Doorway)
  /-- LOCK_TIMER_EXPIRY (R41). -/
  | lockTimerExpiry (d : Doorway)
  /-- CLOSE_DEADLINE_EXPIRY (R40). -/
  | closeDeadlineExpiry (d : Doorway)
  /-- STALL_WATCH_EXPIRY (R39). -/
  | stallWatchExpiry (d : Doorway)
  /-- PAUSE_TIMER_EXPIRY (R21). -/
  | pauseTimerExpiry (d : Doorway)
  /-- HOLD_DEADLINE_EXPIRY (R84). -/
  | holdDeadlineExpiry (d : Doorway)
  /-- GRANT_LATE (R100): the late deadline of the doorway's queue entry expires. -/
  | grantLate (d : Doorway)
  /-- CAR_SILENCE_EXPIRY (R148). -/
  | carSilenceExpiry
  /-- SILENT_DWELL_TIMER_EXPIRY (R90). -/
  | silentDwellTimerExpiry
  /-- OPEN_WATCH_EXPIRY (R115). -/
  | openWatchExpiry (i : Side)
  /-- STUCK_WATCH_EXPIRY (R116). -/
  | stuckWatchExpiry (i : Side)
  /-- TEST_STEP_EXPIRY (R119). -/
  | testStepExpiry (i : Side)
  /-- GOOD_FRAME_DEADLINE_EXPIRY (R160). -/
  | goodFrameDeadlineExpiry
  /-- SAVE_DONE (R171). -/
  | saveDone
  /-- RESPONSE_SENT (R149) on a port. -/
  | responseSent (port : Port)
  /-- TRIGGER_SENT (R165). -/
  | triggerSent
  /-- UNKNOWN_COMMAND (R140): a command byte with this code. -/
  | unknownCommand (port : Port) (code : Byte)
  /-- STRAY_PARAMETER_BYTE (R140): a parameter byte. -/
  | strayParameterByte (port : Port) (byte : Byte)
  /-- BREAK (R141). -/
  | lineBreak (port : Port)
  /-- DAMAGED_BYTE (R141). -/
  | damagedByte (port : Port)
  /-- PRESENCE, 10h (R148). -/
  | presence (port : Port)
  /-- SIDE RELEASE, 11h (R72): side, mode. -/
  | sideRelease (port : Port) (params : List Byte)
  /-- WITHDRAW RELEASE, 12h (R73): side. -/
  | withdrawRelease (port : Port) (params : List Byte)
  /-- OPEN, 13h (R74): mask. -/
  | carOpen (port : Port) (params : List Byte)
  /-- CLOSE, 14h (R76): mask. -/
  | carClose (port : Port) (params : List Byte)
  /-- FORCED CLOSE, 15h (R77): mask. -/
  | forcedClose (port : Port) (params : List Byte)
  /-- LOOP TEST, 16h (R117): side. -/
  | loopTest (port : Port) (params : List Byte)
  /-- STAND DOWN, 17h (R175). -/
  | standDown (port : Port)
  /-- SET ALLOWANCE, 18h (R102): two fields of two bytes. -/
  | setAllowance (port : Port) (params : List Byte)
  /-- READ DOORWAY, 20h (R150): mask. -/
  | readDoorway (port : Port) (params : List Byte)
  /-- READ CAR SUMMARY, 21h (R150). -/
  | readCarSummary (port : Port)
  /-- READ ATTENTION, 22h (R154). -/
  | readAttention (port : Port)
  /-- READ HISTORY, 23h (R151): doorway number. -/
  | readHistory (port : Port) (params : List Byte)
  /-- SERVICE MODE, 30h (R78): 0 off, 1 on. -/
  | serviceMode (port : Port) (params : List Byte)
  /-- LOCAL OPEN, 31h (R75): mask. -/
  | localOpen (port : Port) (params : List Byte)
  /-- LOCAL CLOSE, 32h (R75): mask. -/
  | localClose (port : Port) (params : List Byte)
  /-- WRITE PROFILE, 33h (R145): mask and twenty-five fields of two bytes. -/
  | writeProfile (port : Port) (params : List Byte)
  /-- WRITE CAR SETTINGS, 34h (R145, R168): nine fields of two bytes. -/
  | writeCarSettings (port : Port) (params : List Byte)
  /-- READ PROFILE, 35h (R151): doorway number. -/
  | readProfile (port : Port) (params : List Byte)
  /-- SET CURSOR, 36h (R66): doorway number, segment. -/
  | setCursor (port : Port) (params : List Byte)
  /-- READ REFERENCES, 37h (R67): count. -/
  | readReferences (port : Port) (params : List Byte)
  /-- RESET REFERENCES, 38h (R63): mask. -/
  | resetReferences (port : Port) (params : List Byte)
  /-- CLEAR HISTORY, 39h (R53): mask. -/
  | clearHistory (port : Port) (params : List Byte)
  /-- SAVE SETTINGS, 3Ah (R171). -/
  | saveSettings (port : Port)
  /-- RESTORE, 3Bh (R138): mask. -/
  | restore (port : Port) (params : List Byte)
  /-- RESTART, 3Ch (R174). -/
  | restart (port : Port)
  /-- PLATFORM STATUS, 50h (R157): side, faced, panels, hold, sequence, CRC. -/
  | platformStatus (port : Port) (params : List Byte)
  /-- ARM TRIGGERS, 51h (R164): mask, CRC. -/
  | armTriggers (port : Port) (params : List Byte)
  /-- LINK RESET, 5Fh (R166). -/
  | linkReset (port : Port)
  /-- DRIVE_OVERCURRENT_CLEARED (R137): the input falls. -/
  | driveOvercurrentCleared (d : Doorway)
  /-- PART_POWER_LOSS (R172). -/
  | partPowerLoss
deriving DecidableEq, Repr

end Sys2Proof
end

