-- ==== Sys2Proof/Decode.lean ====
section
/-! DEFINITION. The commands that a word spells by the bits of spec/opcode_table.json. No row of the table
gives bits, so no word spells a command. The bytes of the links are assembled in Machine/Ports.lean. -/

namespace Sys2Proof

/-- The command that a word of `nbits` bits spells: none, since the table gives no row any bits. -/
def decodeTableWord (_nbits _w : Nat) : Option Instr := none

end Sys2Proof
end

