-- ==== Sys2Proof/Machine/State.lean ====
section
/-! DEFINITION. The state of the part as plain data, every piece the manual names (INVENTORY, "State"),
its value after POWER_ON, and the two closed types of reasons a step could stop. -/

namespace Sys2Proof.Machine

open Sys2Proof

/-- The fourteen doorway states (R5). `opened` is OPEN. -/
inductive DoorState where
  | locked | unlocking | opening | opened | closing | locking | stopped | reopening
  | paused | obstructedOpen | halted | emergency | isolated | fault
deriving DecidableEq, Repr

/-- The motions (R6). `toOpen` is OPEN, `toClose` is CLOSE. -/
inductive Motion where
  | toOpen | toClose | reopen | fullReopen
deriving DecidableEq, Repr

/-- The class of a request or grant (R6, R93). -/
inductive GrantClass where
  | urgent | ordinary
deriving DecidableEq, Repr

/-- Where a pending motion stands (R6, field "where"). -/
inductive Standing where
  | queued | waitListed | withheld | deferred | unposted
deriving DecidableEq, Repr

/-- The pending motion (R6). -/
structure PendingMotion where
  kind : Motion
  cls : GrantClass
  stand : Standing
  target : Option Nat
deriving DecidableEq, Repr

/-- The grant held (R8). -/
structure Grant where
  amount : Nat
  cls : GrantClass
deriving DecidableEq, Repr

/-- What follows a pause (R1). -/
inductive PausePurpose where
  | closeRetry | openRetry
deriving DecidableEq, Repr

/-- Causes of an obstruction or blocked opening (R1, R52). -/
inductive ObstructionCause where
  | edge | forceMargin | forceAbsolute | stall | slow | lockNotMade
deriving DecidableEq, Repr

/-- Causes of FAULT (R133). -/
inductive FaultCause where
  | unlockFailed | lockLost | positionImplausible | driveFault
deriving DecidableEq, Repr

/-- The zones of the stroke (R32). -/
inductive Zone where
  | run | plug
deriving DecidableEq, Repr

/-- The direction of a history record (R52). -/
inductive Direction where
  | closing | opening
deriving DecidableEq, Repr

/-- The attempt fields latched when a motion begins (R10). `motion`, the kind of the motion begun, is
the model's own field: R20 and R23 depend on it after the grant has cleared the pending motion.
DEDUCED, log 16. -/
structure Attempt where
  motion : Motion
  start : Time
  startPos : Nat
  speed : Nat
  plugSpeed : Nat
  fabsRun : Nat
  fabsPlug : Nat
  mrun : Nat
  mplug : Nat
  kSamples : Nat
  edgeMute : Nat
  ioff : Nat
  gain : Nat
  unlockTime : Nat
  lockTime : Nat
  tclose : Nat
  target : Option Nat
  beganFromOpen : Bool
deriving DecidableEq, Repr

/-- The stall watch while it runs (R39). -/
structure StallWatch where
  reference : Nat
  deadline : Time
deriving DecidableEq, Repr

/-- One record of the obstruction history (R52). -/
structure HistoryRecord where
  stamp : Time
  direction : Direction
  cause : ObstructionCause
  p : Nat
  segment : Nat
  k : Nat
  force : Option Nat
  zone : Option Zone
  threshold : Option Nat
  limit : Option Nat
deriving DecidableEq, Repr

/-- The kinds of a car record (R69). -/
inductive CarKind where
  | none | openDemand | closeDemand | forcedClose | zeroSpeedClose | silentClose
deriving DecidableEq, Repr

/-- The kinds of a service record (R69). -/
inductive ServiceKind where
  | none | localOpen | localClose
deriving DecidableEq, Repr

/-- The panel states of a platform record (R69, R157). -/
inductive PanelState where
  | closed | opening | opened | obstructed
deriving DecidableEq, Repr

/-- The platform master's view of a doorway (R69). -/
structure PlatformRecord where
  faced : Bool
  panel : PanelState
  hold : Bool
  holdSince : Option Time
  overridden : Bool
deriving DecidableEq, Repr

/-- The cleared platform record (R69, R80). -/
def PlatformRecord.cleared : PlatformRecord :=
  { faced := false, panel := .closed, hold := false, holdSince := none, overridden := false }

/-- Everything the part keeps for one doorway: its inputs as last taken, the doorway record (R1), the
items of its force monitor (R30), its references and learn permit (R56, R57), its obstruction history
(R51), its records of the demand book (R69) and its profile (R169). -/
structure Door where
  inputs : DoorInputs
  state : DoorState
  p : Nat
  pendingMotion : Option PendingMotion
  grant : Option Grant
  k : Nat
  openAttempts : Nat
  unlockFailures : Nat
  attempt : Option Attempt
  excess : Nat
  peaks : List Nat
  pausePurpose : Option PausePurpose
  lastCause : Option ObstructionCause
  faultCause : Option FaultCause
  openShort : Bool
  holdDriven : Bool
  unlockTimer : Option Time
  lockTimer : Option Time
  closeDeadline : Option Time
  pauseTimer : Option Time
  /-- the lock coil (R5, R11) -/
  coil : Bool
  /-- the lowest kinetic cap since the motion under way began (R28), log 17 -/
  motionCap : Nat
  /-- the time base reading at which the drive was switched off, until time passes (R31, R42, R46), log 39 -/
  driveOff : Option Time
  /-- the time base reading of an obstruction, until time passes (R18, R46), log 41 -/
  obstructedAt : Option Time
  /-- the time base reading at which the unlock timer expired with another try to come, until time passes
  (R12), log 42 -/
  unlockMissedAt : Option Time
  /-- the next reading is taken without the change check (R170) -/
  rescaled : Bool
  marks : List Bool
  lastForce : Option Nat
  envelope : List Nat
  stallWatch : Option StallWatch
  refs : List Nat
  learnPermit : Bool
  history : List HistoryRecord
  overflow : Nat
  carKind : CarKind
  carStamp : Stamp
  serviceKind : ServiceKind
  serviceStamp : Stamp
  platform : PlatformRecord
  closeTime : Option Time
  holdDeadline : Option Time
  profile : Profile
deriving DecidableEq, Repr

/-- The modes of a side release (R69). -/
inductive ReleaseMode where
  | none | screened | unscreened
deriving DecidableEq, Repr

/-- The verdict of a side's loop test (R110). -/
inductive Verdict where
  | none | running | pass | fail | aborted
deriving DecidableEq, Repr

/-- The loop watch of a side (R110, R114). -/
inductive LoopWatch where
  | inactive
  | openWatch (deadline : Time)
  | stuckWatch (deadline : Time)
  | reported
deriving DecidableEq, Repr

/-- The kinds of loop monitor event (R115, R116). -/
inductive LoopEvent where
  | loopOpen | loopStuck
deriving DecidableEq, Repr

/-- One side: its release record (R69; the side record's release field is its mode), its loop return
input, and the side record (R110). -/
structure SideRecord where
  release : ReleaseMode
  releaseStamp : Stamp
  loopClosed : Bool
  proof : Bool
  output : Bool
  verdict : Verdict
  priorVerdict : Option Verdict
  mismatches : Nat
  step : Nat
  stepDeadline : Option Time
  monitorEvents : Nat
  watch : LoopWatch
deriving DecidableEq, Repr

/-- An entry of a supply queue or of the wait list (R92), with the late deadline of R100 (set when the
entry is appended to a queue). -/
structure Entry where
  door : Doorway
  motion : Motion
  cls : GrantClass
  amount : Nat
  posted : Time
  lateDeadline : Time
  lateReported : Bool
deriving DecidableEq, Repr

/-- An allowance with its reserve. -/
structure AllowancePair where
  allowance : Nat
  reserve : Nat
deriving DecidableEq, Repr

/-- The arbiter's view of the supply (R92). -/
inductive SupplyView where
  | healthy | lost
deriving DecidableEq, Repr

/-- The supply arbiter (R92). -/
structure Arbiter where
  active : AllowancePair
  pair : Option AllowancePair
  heldTotal : Nat
  heldOrdinary : Nat
  urgent : List Entry
  ordinary : List Entry
  waiting : List Entry
  supply : SupplyView
deriving DecidableEq, Repr

/-- The lock states of the platform link (R156). -/
inductive LockState where
  | unlocked | acquiring | locked | quiescent
deriving DecidableEq, Repr

/-- The kinds of trigger (R165). -/
inductive TriggerKind where
  | sideReleased | sideProven
deriving DecidableEq, Repr

/-- A trigger of the trigger queue (R156). -/
structure Trigger where
  kind : TriggerKind
  side : Side
deriving DecidableEq, Repr

/-- The platform link monitor (R156). -/
structure LinkMonitor where
  lock : LockState
  goodRun : Nat
  badRun : Nat
  deadline : Option Time
  lastSequence : Option Byte
  armedReleased : Bool
  armedProven : Bool
  triggers : List Trigger
deriving DecidableEq, Repr

/-- The gates of an opening demand (R74). -/
inductive Gate where
  | zeroSpeed | release | platform
deriving DecidableEq, Repr

/-- The cause of the last start (R173, R174, R177). -/
inductive StartCause where
  | powerOn | restart | wake
deriving DecidableEq, Repr

/-- An attention set (R152): for every name the entry with its detail, or none. -/
structure AttentionSet where
  state : PerDoorway (Option DoorState)
  obstruction : PerDoorway Bool
  openRefused : PerDoorway (Option Gate)
  grantLate : PerDoorway Bool
  sideProof : PerSide Bool
  loopTestDone : PerSide Bool
  loopMonitor : PerSide (Option LoopEvent)
  platformLink : Option LockState
  supplyLoss : Bool
  supplyRestore : Bool
  start : Option StartCause
  saveDone : Bool
  storeInvalid : Bool
  command : Bool
  carSilent : Bool
deriving DecidableEq, Repr

/-- The empty attention set. -/
def AttentionSet.empty : AttentionSet :=
  { state := .const none, obstruction := .const false, openRefused := .const none,
    grantLate := .const false, sideProof := .const false, loopTestDone := .const false,
    loopMonitor := .const none, platformLink := none, supplyLoss := false, supplyRestore := false,
    start := none, saveDone := false, storeInvalid := false, command := false, carSilent := false }

/-- The commands the masters may send (R142). -/
inductive Command where
  | presence | sideRelease | withdrawRelease | carOpen | carClose | forcedClose | loopTest
  | standDown | setAllowance | readDoorway | readCarSummary | readAttention | readHistory
  | serviceMode | localOpen | localClose | writeProfile | writeCarSettings | readProfile
  | setCursor | readReferences | resetReferences | clearHistory | saveSettings | restore | restart
  | platformStatus | armTriggers | linkReset
deriving DecidableEq, Repr

/-- The receive context of a port (R139); the parameters received stand in order of arrival. -/
inductive Context where
  | idle
  | collecting (command : Command) (received : List Byte)
  | discarding
deriving DecidableEq, Repr

/-- The command-status counts (R155). Only the car port's void count ever rises. -/
structure StatusCounts where
  refused : Nat
  truncated : Nat
  clamped : Nat
  unknown : Nat
  stray : Nat
  void : Nat
deriving DecidableEq, Repr

/-- All counts 0. -/
def StatusCounts.zero : StatusCounts := ⟨0, 0, 0, 0, 0, 0⟩

/-- A response in a response queue (R149): the code of its opening byte, which carries the mark bit,
and its parameter bytes. -/
structure Response where
  code : Byte
  body : List Byte
deriving DecidableEq, Repr

/-- A link port (R139). The platform port has no response queue and no attention set: its two fields
stay empty. -/
structure LinkPort where
  context : Context
  counts : StatusCounts
  lastRefused : Option Byte
  responses : List Response
  attention : AttentionSet
deriving DecidableEq, Repr

/-- The three link ports. -/
structure LinkPorts where
  car : LinkPort
  platform : LinkPort
  service : LinkPort
deriving DecidableEq, Repr

/-- The silence of the car link (R148). -/
inductive CarSilence where
  | notSilent (deadline : Time)
  | silent
deriving DecidableEq, Repr

/-- The nonvolatile copy (R172): the snapshot as words of two bytes, its check word, and whether its
last write was cut off by a loss of the part's power. Layout: DESIGN CHOICE, log 21. -/
structure StoreCopy where
  words : List (BitVec 16)
  check : BitVec 16
  cutOff : Bool
deriving DecidableEq, Repr

/-- The store (R171, R172): the time at which the write in progress began (store busy while present),
the snapshot being written, and the copy. -/
structure Store where
  busySince : Option Time
  writing : List (BitVec 16)
  copy : StoreCopy
deriving DecidableEq, Repr

/-- The read cursor (R66). -/
structure Cursor where
  door : Doorway
  segment : Nat
deriving DecidableEq, Repr

/-- The whole part. -/
structure State where
  /-- the part has power (log 4) -/
  powered : Bool
  time : Time
  /-- the part is in stand-down (R175) -/
  standDown : Bool
  lastStart : StartCause
  /-- the zero-speed input as last taken (R87) -/
  zeroSpeed : Bool
  doors : PerDoorway Door
  sides : PerSide SideRecord
  serviceMode : Bool
  demandCounter : Stamp
  silentDwell : Option Time
  arbiter : Arbiter
  link : LinkMonitor
  ports : LinkPorts
  carSilence : CarSilence
  settings : CarSettings
  store : Store
  cursor : Cursor
  /-- the commands that wait, first in, first out -/
  pending : List Instr
deriving DecidableEq, Repr

/-- Reasons for which a step could stop with a fault: none. The manual gives every command an effect
in every state (log 33), so no constructor stands here. -/
inductive Fault where
deriving DecidableEq, Repr

/-- Reasons for which a command could be refused by the model. -/
inductive Refusal where
  /-- An arm of `exec` whose command has no meaning yet raises it. Safe: the model stops. -/
  | notModelled (mnemonic : String)
deriving DecidableEq, Repr

/-- What a meaning answers. -/
abbrev Answer := Host.Outcome State Fault Refusal

/-- The levels of one doorway's inputs in the state after reset: leaf closed and latched, nothing
operated. DESIGN CHOICE, log 3. -/
def DoorInputs.quiet : DoorInputs :=
  { lockLocked := true, edgePressed := false, handleOperated := false, isolationOperated := false,
    overcurrent := false, sensorCount := 0 }

/-- The input levels of the state after reset: the car of chapter 10's worked example, at rest in a
siding with its supply healthy, its doorways latched and its loops intact. DESIGN CHOICE, log 3. -/
def InputLevels.quiet : InputLevels :=
  { zeroSpeed := true, supplyHealthy := true, loopClosed := .const true,
    doors := .const DoorInputs.quiet }

/-- A doorway after POWER_ON with quiet inputs and the default profile (R2, R30, R56, R57, R51, R69). -/
def Door.afterPowerOn : Door :=
  { inputs := DoorInputs.quiet, state := .locked, p := 0, pendingMotion := none, grant := none,
    k := 0, openAttempts := 0, unlockFailures := 0, attempt := none, excess := 0,
    peaks := List.replicate 32 0, pausePurpose := none, lastCause := none, faultCause := none,
    openShort := false, holdDriven := false, unlockTimer := none, lockTimer := none,
    closeDeadline := none, pauseTimer := none, coil := false, motionCap := 0, driveOff := none,
    obstructedAt := none, unlockMissedAt := none, rescaled := false,
    marks := List.replicate 32 false, lastForce := none, envelope := List.replicate 32 80,
    stallWatch := none, refs := List.replicate 32 80, learnPermit := false, history := [],
    overflow := 0, carKind := .none, carStamp := 0, serviceKind := .none, serviceStamp := 0,
    platform := .cleared, closeTime := none, holdDeadline := none, profile := Profile.default }

/-- A side after POWER_ON with quiet inputs: proven, the return following the output (R110). -/
def SideRecord.afterPowerOn : SideRecord :=
  { release := .none, releaseStamp := 0, loopClosed := true, proof := true, output := true,
    verdict := .none, priorVerdict := none, mismatches := 0, step := 0, stepDeadline := none,
    monitorEvents := 0, watch := .inactive }

/-- The attention set after a POWER_ON that found the store invalid: STORE with STORE_INVALID and
START with cause POWER_ON (R172, R173). -/
def AttentionSet.afterPowerOn : AttentionSet :=
  { AttentionSet.empty with start := some .powerOn, storeInvalid := true }

/-- A port after POWER_ON (R139). -/
def LinkPort.afterPowerOn (attention : AttentionSet) : LinkPort :=
  { context := .idle, counts := .zero, lastRefused := none, responses := [],
    attention := attention }

/-- A nonvolatile copy never written. Its bytes are not given by the manual (R172): all 0, which does
not agree with its check word. DESIGN CHOICE, log 3. -/
def StoreCopy.neverWritten : StoreCopy :=
  { words := List.replicate 465 0, check := 0, cutOff := false }

/-- The machine right after reset: the state that POWER_ON leaves (R173) with the input levels and the
never-written copy of log 3. -/
def State.reset : State :=
  { powered := true
    time := 0
    standDown := false
    lastStart := .powerOn
    zeroSpeed := true
    doors := .const Door.afterPowerOn
    sides := .const SideRecord.afterPowerOn
    serviceMode := false
    demandCounter := 0
    silentDwell := none
    arbiter :=
      { active := ⟨200, 50⟩, pair := none, heldTotal := 0, heldOrdinary := 0, urgent := [],
        ordinary := [], waiting := [], supply := .healthy }
    link :=
      { lock := .unlocked, goodRun := 0, badRun := 0, deadline := none, lastSequence := none,
        armedReleased := false, armedProven := false, triggers := [] }
    ports :=
      { car := LinkPort.afterPowerOn AttentionSet.afterPowerOn
        platform := LinkPort.afterPowerOn AttentionSet.empty
        service := LinkPort.afterPowerOn AttentionSet.afterPowerOn }
    carSilence := .notSilent 1000
    settings := CarSettings.default
    store := { busySince := none, writing := [], copy := StoreCopy.neverWritten }
    cursor := { door := .D1, segment := 0 }
    pending := [] }

end Sys2Proof.Machine
end

