-- ==== Sys2Proof/Machine/Arith.lean ====
section
/-! DEFINITION. The arithmetic of the manual, to the last truncation: intervals on the time base,
positions, segments, zones, force, speeds, learning, and the CRC of the platform link. -/

namespace Sys2Proof.Machine

open Sys2Proof

/-- The time base reading `ms` milliseconds after `now`, modulo 2^32 (00, "Time"). -/
def after (now : Time) (ms : Nat) : Time := now + BitVec.ofNat 32 ms

/-- The interval from `t` to `now`, modulo 2^32 (00, "Time"). -/
def elapsed (now t : Time) : Nat := (now - t).toNat

/-- A deadline is reached when the interval from it to now, modulo 2^32, lies in the lower half of the
range; every deadline is set less than half the range ahead. DESIGN CHOICE, log 23. -/
def reached (now deadline : Time) : Bool := decide (elapsed now deadline < 2147483648)

/-- A timer that is active and whose deadline is reached. -/
def due (now : Time) : Option Time → Bool
  | none => false
  | some t => reached now t

/-- The integer square root by binary digits, from the highest: the largest r with r * r ≤ q
(00, "Arithmetic"). -/
def isqrtDigits : Nat → Nat → Nat → Nat
  | 0, _, r => r
  | b + 1, q, r =>
    isqrtDigits b q (if (r + 2 ^ b) * (r + 2 ^ b) ≤ q then r + 2 ^ b else r)

/-- The largest integer whose square does not exceed `q`. -/
def isqrt (q : Nat) : Nat := isqrtDigits (q.log2 / 2 + 1) q 0

/-- The least and greatest value of a range applied to a value. -/
def clampTo (lo hi v : Nat) : Nat := max lo (min hi v)

/-- R3: a count converted to millimetres, truncated. -/
def convert (count countsPerMm : Nat) : Nat := count / countsPerMm

/-- R4: a converted value beyond this is implausible. -/
def beyondSeat (profile : Profile) (v : Nat) : Bool := decide (profile.lstroke + Config.seatLimit < v)

/-- R4: the converted value, before any clamp, differs from p by more than 50 mm. -/
def jumps (p v : Nat) : Bool := decide (p + Config.changeLimit < v ∨ v + Config.changeLimit < p)

/-- R3: a plausible value, with the clamp to Lstroke. -/
def seat (profile : Profile) (v : Nat) : Nat := min v profile.lstroke

/-- 01 section 1.2: the open position, p ≥ Lstroke − 5. -/
def atOpen (profile : Profile) (p : Nat) : Bool := decide (profile.lstroke ≤ p + Config.openMargin)

/-- 01 section 1.2: the lock window, p ≤ 3. -/
def inLockWindow (p : Nat) : Bool := decide (p ≤ Config.lockWindow)

/-- R32: the segment of a position. -/
def segmentOf (profile : Profile) (p : Nat) : Nat :=
  min (Config.segments - 1) ((p * Config.segments) / profile.lstroke)

/-- R32: the zone of a position. -/
def zoneOf (profile : Profile) (p : Nat) : Zone := if p < profile.pz then .plug else .run

/-- R31: the current of a sample, clamped to 0–16383 mA. -/
def clampCurrent (current : Int) : Nat := min 16383 current.toNat

/-- R31: the force of a sample. -/
def forceOf (current ioff gain : Nat) : Nat := min 1023 (((current - ioff) * gain) / 256)

/-- R33: the latched absolute limit of a zone. -/
def absoluteLimit (a : Attempt) : Zone → Nat
  | .run => a.fabsRun
  | .plug => a.fabsPlug

/-- R33: the latched margin of a zone. -/
def marginOf (a : Attempt) : Zone → Nat
  | .run => a.mrun
  | .plug => a.mplug

/-- R28: the kinetic cap of a profile. -/
def kineticCap (profile : Profile) : Nat := isqrt ((2 * profile.elim * 1000) / profile.mass)

/-- R29: V_0. -/
def speedZero (profile : Profile) : Nat := min profile.vclose (kineticCap profile)

/-- R29: the closing speed V_k. -/
def closingSpeed (profile : Profile) : Nat → Nat
  | 0 => speedZero profile
  | k + 1 => max (min profile.vfloor (speedZero profile)) ((closingSpeed profile k * 3) / 4)

/-- R29: the speed of an opening or a reopening. -/
def openingSpeed (profile : Profile) : Nat := min profile.vopen (kineticCap profile)

/-- R60: one entry moved one eighth of the way to its peak, truncated toward zero. -/
def learned (r peak : Nat) : Nat := ((r : Int) + Int.tdiv ((peak : Int) - (r : Int)) 8).toNat

/-- R60: the whole update, entry by entry where the segment is marked. -/
def learnedEntries : List Nat → List Nat → List Bool → List Nat
  | r :: rs, peak :: ps, mark :: ms =>
    (if mark then learned r peak else r) :: learnedEntries rs ps ms
  | rs, _, _ => rs

/-- R70: stamp `a` is newer than stamp `b`. -/
def newer (a b : Stamp) : Bool := decide (1 ≤ (a - b).toNat ∧ (a - b).toNat ≤ 32767)

/-- R158: one bit of the CRC, the data bit taken with the bit shifted out. -/
def crcBit (reg : Byte) (bit : Bool) : Byte :=
  if reg.msb != bit then (reg <<< 1) ^^^ 7#8 else reg <<< 1

/-- R158: one byte of the CRC, most significant bit first. -/
def crcByte (reg byte : Byte) : Byte :=
  [7, 6, 5, 4, 3, 2, 1, 0].foldl (fun r i => crcBit r (byte.getLsbD i)) reg

/-- R158: the CRC over bytes in the order sent. -/
def crc (bytes : List Byte) : Byte := bytes.foldl crcByte 0#8

end Sys2Proof.Machine
end

