-- ==== Sys2Proof/Machine/Ops.lean ====
section
/-! DEFINITION. The named operations over the state: reading and writing the record of a doorway, of a
side and of a port, and working through doorways in ascending order. -/

namespace Sys2Proof.Machine

open Sys2Proof

/-- The record of a doorway. -/
def State.door (s : State) (d : Doorway) : Door := s.doors.get d

def State.setDoor (s : State) (d : Doorway) (r : Door) : State := { s with doors := s.doors.set d r }

/-- Change the record of one doorway. -/
def State.modDoor (s : State) (d : Doorway) (f : Door → Door) : State := s.setDoor d (f (s.door d))

/-- The record of a side. -/
def State.side (s : State) (i : Side) : SideRecord := s.sides.get i

def State.setSide (s : State) (i : Side) (r : SideRecord) : State := { s with sides := s.sides.set i r }

/-- Change the record of one side. -/
def State.modSide (s : State) (i : Side) (f : SideRecord → SideRecord) : State :=
  s.setSide i (f (s.side i))

/-- The link port of a name. -/
def State.port (s : State) : Port → LinkPort
  | .car => s.ports.car
  | .platform => s.ports.platform
  | .service => s.ports.service

def State.setPort (s : State) (q : Port) (r : LinkPort) : State :=
  { s with ports :=
      match q with
      | .car => { s.ports with car := r }
      | .platform => { s.ports with platform := r }
      | .service => { s.ports with service := r } }

/-- Change one port. -/
def State.modPort (s : State) (q : Port) (f : LinkPort → LinkPort) : State := s.setPort q (f (s.port q))

def State.modArbiter (s : State) (f : Arbiter → Arbiter) : State := { s with arbiter := f s.arbiter }

def State.modLink (s : State) (f : LinkMonitor → LinkMonitor) : State := { s with link := f s.link }

/-- Work through doorways in the order of a list. -/
def forDoors (ds : List Doorway) (f : Doorway → State → State) (s : State) : State :=
  ds.foldl (fun t d => f d t) s

/-- The part's answer to an event: the effect if the part has power, nothing otherwise (log 4). -/
def whenPowered (s : State) (f : State → State) : Answer := if s.powered then .next (f s) else .next s

/-- R5: the states in which the drive is on. -/
def DoorState.driving : DoorState → Bool
  | .opening | .closing | .reopening => true
  | _ => false

/-- R31, R42, R46: the moment of the last switching off of the drive, when a doorway takes a state at
`now`. The moment is forgotten at a later start of the drive (log 39). -/
def driveOffAfter (now : Time) (r : Door) (st : DoorState) : Option Time :=
  if st.driving then r.driveOff.filter fun t => t = now
  else if r.state.driving then some now
  else r.driveOff

/-- R124: the three states out of the part's control. -/
def DoorState.outOfControl : DoorState → Bool
  | .emergency | .isolated | .fault => true
  | _ => false

/-- R19: the states in which a doorway in the lock window relatches. -/
def DoorState.relatches : DoorState → Bool
  | .opened | .stopped | .paused => true
  | _ => false

/-- R121: the states that leave a side eligible for a loop test. -/
def DoorState.testable : DoorState → Bool
  | .locked | .isolated => true
  | _ => false

/-- What the part commands a doorway's drive to do: nothing while it is off, else the direction and the
speed in mm/s (R5, R28, R29). -/
def driveCommand (r : Door) : Option (Direction × Nat) :=
  match r.attempt with
  | none => none
  | some a =>
    let speed := min (if r.p < r.profile.pz then a.plugSpeed else a.speed) r.motionCap
    match r.state with
    | .opening | .reopening => some (.opening, speed)
    | .closing => some (.closing, speed)
    | _ => none

end Sys2Proof.Machine
end

