-- ==== Sys2Proof/Machine/Flags.lean ====
section
/-! DEFINITION. The flags by which the part tells its masters that something has changed: the attention
sets and lines (R152, R153) and the command-status counts (R155). -/

namespace Sys2Proof.Machine

open Sys2Proof

/-- Raise an entry in the set of one port. The platform port has no set (R152). -/
def raiseOn (q : Port) (f : AttentionSet → AttentionSet) (s : State) : State :=
  match q with
  | .platform => s
  | .car => s.modPort .car fun r => { r with attention := f r.attention }
  | .service => s.modPort .service fun r => { r with attention := f r.attention }

/-- Raise an entry in the sets of both the car port and the service port (R152). -/
def raiseBoth (f : AttentionSet → AttentionSet) (s : State) : State :=
  raiseOn .service f (raiseOn .car f s)

/-- STATE attention naming the doorway, with the state last entered (R5). -/
def raiseState (d : Doorway) (st : DoorState) (s : State) : State :=
  raiseBoth (fun a => { a with state := a.state.set d (some st) }) s

/-- OBSTRUCTION attention naming the doorway (R43, R48, R50). -/
def raiseObstruction (d : Doorway) (s : State) : State :=
  raiseBoth (fun a => { a with obstruction := a.obstruction.set d true }) s

/-- OPEN_REFUSED attention with the gate of the newest refusal (R74). -/
def raiseOpenRefused (d : Doorway) (g : Gate) (s : State) : State :=
  raiseBoth (fun a => { a with openRefused := a.openRefused.set d (some g) }) s

/-- GRANT_LATE attention (R100). -/
def raiseGrantLate (d : Doorway) (s : State) : State :=
  raiseBoth (fun a => { a with grantLate := a.grantLate.set d true }) s

/-- SIDE_PROOF attention (R112). -/
def raiseSideProof (i : Side) (s : State) : State :=
  raiseBoth (fun a => { a with sideProof := a.sideProof.set i true }) s

/-- LOOP_TEST_DONE attention (R120, R121). -/
def raiseLoopTestDone (i : Side) (s : State) : State :=
  raiseBoth (fun a => { a with loopTestDone := a.loopTestDone.set i true }) s

/-- LOOP_MONITOR attention with the kind of the newest event (R115, R116). -/
def raiseLoopMonitor (i : Side) (e : LoopEvent) (s : State) : State :=
  raiseBoth (fun a => { a with loopMonitor := a.loopMonitor.set i (some e) }) s

/-- PLATFORM_LINK attention with the lock state after the change (R162). -/
def raisePlatformLink (l : LockState) (s : State) : State :=
  raiseBoth (fun a => { a with platformLink := some l }) s

/-- SUPPLY attention, marked as a loss (R105). -/
def raiseSupplyLoss (s : State) : State := raiseBoth (fun a => { a with supplyLoss := true }) s

/-- SUPPLY attention, marked as a restore (R107). -/
def raiseSupplyRestore (s : State) : State := raiseBoth (fun a => { a with supplyRestore := true }) s

/-- START attention with the cause of the start (R173, R174, R177). -/
def raiseStart (c : StartCause) (s : State) : State := raiseBoth (fun a => { a with start := some c }) s

/-- STORE attention with the SAVE_DONE mark (R171). -/
def raiseSaveDone (s : State) : State := raiseBoth (fun a => { a with saveDone := true }) s

/-- STORE attention with the STORE_INVALID mark (R172). -/
def raiseStoreInvalid (s : State) : State := raiseBoth (fun a => { a with storeInvalid := true }) s

/-- COMMAND attention in the set of the port on which the counted command arrived (R155). -/
def raiseCommand (q : Port) (s : State) : State := raiseOn q (fun a => { a with command := true }) s

/-- CAR_SILENT attention, in the service port's set alone (R148). -/
def raiseCarSilent (s : State) : State := raiseOn .service (fun a => { a with carSilent := true }) s

/-- R153: the attention line of a port is asserted while its set is not empty. -/
def attentionLine (s : State) (q : Port) : Bool := decide ((s.port q).attention ≠ AttentionSet.empty)

/-- A count that stops at 255 (R155, R115, R51). -/
def bump (n : Nat) : Nat := min Config.countLimit (n + 1)

/-- Raise a command-status count of a port, with COMMAND attention (R155). -/
def countOn (q : Port) (f : StatusCounts → StatusCounts) (s : State) : State :=
  raiseCommand q (s.modPort q fun r => { r with counts := f r.counts })

/-- The refused count rises and last refused takes the code (R155). -/
def countRefused (q : Port) (code : Byte) (s : State) : State :=
  countOn q (fun c => { c with refused := bump c.refused })
    (s.modPort q fun r => { r with lastRefused := some code })

def countTruncated (q : Port) (s : State) : State :=
  countOn q (fun c => { c with truncated := bump c.truncated }) s

def countClamped (q : Port) (s : State) : State :=
  countOn q (fun c => { c with clamped := bump c.clamped }) s

def countUnknown (q : Port) (s : State) : State :=
  countOn q (fun c => { c with unknown := bump c.unknown }) s

def countStray (q : Port) (s : State) : State :=
  countOn q (fun c => { c with stray := bump c.stray }) s

/-- The void count, kept on the car port (R155, R175). -/
def countVoid (s : State) : State := countOn .car (fun c => { c with void := bump c.void }) s

end Sys2Proof.Machine
end

