-- ==== Sys2Proof/Machine/Operands.lean ====
section
/-! DEFINITION. The forms a command's parameters take: the doorway select mask (R147), numbers and
enumerations clamped to their range (R144), two-byte fields (R144, section 11.5), and the codes and
parameter counts of the commands (R140, R142). -/

namespace Sys2Proof.Machine

open Sys2Proof

/-- R147: bit n of the mask selects doorway D(n+1). -/
def maskSelects (mask : Byte) (d : Doorway) : Bool := mask.getLsbD (d.number - 1)

/-- The doorways a mask selects, in ascending order. -/
def selected (mask : Byte) : List Doorway := Doorway.all.filter (maskSelects mask)

/-- R147: the highest-numbered selected doorway. -/
def highestSelected (mask : Byte) : Option Doorway := (selected mask).getLast?

/-- R144: use a parameter clamped to its range, counting the clamp. -/
def withClamp (q : Port) (lo hi v : Nat) (f : Nat → State → State) (s : State) : State :=
  f (clampTo lo hi v) (if clampTo lo hi v = v then s else countClamped q s)

/-- The doorway of a number, clamped to 1 to 8 (R144). -/
def doorwayOf (n : Nat) : Doorway :=
  match n with
  | 0 | 1 => .D1 | 2 => .D2 | 3 => .D3 | 4 => .D4
  | 5 => .D5 | 6 => .D6 | 7 => .D7 | _ => .D8

/-- The side of a code: 0 for A, 1 for B. -/
def sideOf (n : Nat) : Side := if n = 0 then .A else .B

/-- The release mode of a SIDE RELEASE parameter, 1 for SCREENED, 2 for UNSCREENED (R72). -/
def releaseModeOf (n : Nat) : ReleaseMode := if n = 2 then .unscreened else .screened

/-- A field of two bytes, most significant first (R144). -/
def fieldValue (hi lo : Byte) : Nat := hi.toNat * 256 + lo.toNat

/-- The code of each command (R142 and the rule of each command). -/
def Command.code : Command → Byte
  | .presence => 0x10#8 | .sideRelease => 0x11#8 | .withdrawRelease => 0x12#8
  | .carOpen => 0x13#8 | .carClose => 0x14#8 | .forcedClose => 0x15#8 | .loopTest => 0x16#8
  | .standDown => 0x17#8 | .setAllowance => 0x18#8 | .readDoorway => 0x20#8
  | .readCarSummary => 0x21#8 | .readAttention => 0x22#8 | .readHistory => 0x23#8
  | .serviceMode => 0x30#8 | .localOpen => 0x31#8 | .localClose => 0x32#8
  | .writeProfile => 0x33#8 | .writeCarSettings => 0x34#8 | .readProfile => 0x35#8
  | .setCursor => 0x36#8 | .readReferences => 0x37#8 | .resetReferences => 0x38#8
  | .clearHistory => 0x39#8 | .saveSettings => 0x3A#8 | .restore => 0x3B#8 | .restart => 0x3C#8
  | .platformStatus => 0x50#8 | .armTriggers => 0x51#8 | .linkReset => 0x5F#8

/-- All commands, in the order of their codes. -/
def Command.all : List Command :=
  [.presence, .sideRelease, .withdrawRelease, .carOpen, .carClose, .forcedClose, .loopTest,
   .standDown, .setAllowance, .readDoorway, .readCarSummary, .readAttention, .readHistory,
   .serviceMode, .localOpen, .localClose, .writeProfile, .writeCarSettings, .readProfile,
   .setCursor, .readReferences, .resetReferences, .clearHistory, .saveSettings, .restore, .restart,
   .platformStatus, .armTriggers, .linkReset]

/-- The command a code names, if any (R140). -/
def commandOf (code : Byte) : Option Command := Command.all.find? fun c => c.code == code

/-- How many parameter bytes a command takes. -/
def Command.paramCount : Command → Nat
  | .presence | .standDown | .readCarSummary | .readAttention | .saveSettings | .restart
  | .linkReset => 0
  | .withdrawRelease | .carOpen | .carClose | .forcedClose | .loopTest | .readDoorway
  | .readHistory | .serviceMode | .localOpen | .localClose | .readProfile | .readReferences
  | .resetReferences | .clearHistory | .restore => 1
  | .sideRelease | .setCursor | .armTriggers => 2
  | .setAllowance => 4
  | .platformStatus => 6
  | .writeCarSettings => 18
  | .writeProfile => 51

/-- R142: the ports on which each command may be issued. -/
def Command.allowedOn (c : Command) (q : Port) : Bool :=
  match c, q with
  | .presence, .car | .sideRelease, .car | .withdrawRelease, .car | .carOpen, .car
  | .carClose, .car | .forcedClose, .car | .standDown, .car => true
  | .loopTest, .car | .loopTest, .service | .setAllowance, .car | .setAllowance, .service
  | .readDoorway, .car | .readDoorway, .service | .readCarSummary, .car
  | .readCarSummary, .service | .readAttention, .car | .readAttention, .service
  | .readHistory, .car | .readHistory, .service => true
  | .serviceMode, .service | .localOpen, .service | .localClose, .service
  | .writeProfile, .service | .writeCarSettings, .service | .readProfile, .service
  | .setCursor, .service | .readReferences, .service | .resetReferences, .service
  | .clearHistory, .service | .saveSettings, .service | .restore, .service
  | .restart, .service => true
  | .platformStatus, .platform | .armTriggers, .platform | .linkReset, .platform => true
  | _, _ => false

end Sys2Proof.Machine
end

