-- ==== Sys2Proof/Machine/SideProof.lean ====
section
/-! DEFINITION. The proof and loop block (chapter 6): the side proof and its output, the loop monitor and
the loop test; and the trigger queue that SIDE_PROVEN and SIDE_RELEASED reach (R165). -/

namespace Sys2Proof.Machine

open Sys2Proof

/-- R165: the arming mark of a kind of trigger. -/
def triggerArmed (l : LinkMonitor) : TriggerKind → Bool
  | .sideReleased => l.armedReleased
  | .sideProven => l.armedProven

/-- R165: an event queues its trigger if its mark is armed and no entry of the same kind and side is in
the queue; otherwise it is dropped. -/
def queueTrigger (kind : TriggerKind) (i : Side) (s : State) : State :=
  if triggerArmed s.link kind = true ∧ (⟨kind, i⟩ : Trigger) ∉ s.link.triggers then
    s.modLink fun l => { l with triggers := l.triggers ++ [⟨kind, i⟩] }
  else s

/-- R5: whether a doorway counts toward its side's proof. -/
def countsForProof (r : Door) : Bool :=
  match r.state with
  | .locked => true
  | .isolated => r.inputs.lockLocked
  | _ => false

/-- R111: the side proof as computed. -/
def proofHolds (s : State) (i : Side) : Bool :=
  i.doorways.all (fun d => countsForProof (s.door d)) &&
    decide ((s.side i).verdict ≠ .fail) && decide ((s.side i).verdict ≠ .running)

/-- R114: the watch after the monitor has examined the output and the return. A watch of the other kind
gives way to the kind that the levels call for (log 25). -/
def examineWatch (now : Time) (output closed : Bool) (w : LoopWatch) : LoopWatch :=
  match output, closed with
  | true, true => .inactive
  | false, false => .inactive
  | true, false =>
    match w with
    | .openWatch t => .openWatch t
    | .reported => .reported
    | .inactive => .openWatch (after now Config.loopSettle)
    | .stuckWatch _ => .openWatch (after now Config.loopSettle)
  | false, true =>
    match w with
    | .stuckWatch t => .stuckWatch t
    | .reported => .reported
    | .inactive => .stuckWatch (after now Config.loopSettle)
    | .openWatch _ => .stuckWatch (after now Config.loopSettle)

/-- R114: the monitor re-examines a side, unless a test runs on it or the part is in stand-down. -/
def examineSide (i : Side) (s : State) : State :=
  if s.standDown = true ∨ (s.side i).verdict = .running then s
  else s.modSide i fun r => { r with watch := examineWatch s.time r.output r.loopClosed r.watch }

/-- R114, R120, R123: the watch starts from the output and the return as they now read, unless a test
runs on the side or the part is in stand-down. -/
def startWatch (i : Side) (s : State) : State :=
  if s.standDown = true ∨ (s.side i).verdict = .running then s
  else s.modSide i fun r => { r with watch := examineWatch s.time r.output r.loopClosed .inactive }

/-- The output line takes a level; the monitor re-examines the side at a change (R114). -/
def driveOutput (i : Side) (level : Bool) (s : State) : State :=
  if (s.side i).output = level then s
  else examineSide i (s.modSide i fun r => { r with output := level })

/-- R112: the side proof is computed again, and a change is driven, reported and handed on. A value
unchanged raises nothing, also where R113's example has a SIDE_PROOF pending (log 37). -/
def recomputeProof (i : Side) (s : State) : State :=
  let v := proofHolds s i
  if v = (s.side i).proof then s
  else
    let s := s.modSide i fun r => { r with proof := v }
    let s := if (s.side i).verdict = .running then s else driveOutput i v s
    let s := raiseSideProof i s
    if v then queueTrigger .sideProven i s else s

/-- R120, R121: a test ends with a verdict: the proof is computed again, the output takes the proof,
LOOP_TEST_DONE is raised and the loop watch starts. -/
def endTest (i : Side) (v : Verdict) (s : State) : State :=
  let s := s.modSide i fun r =>
    { r with verdict := v, priorVerdict := none, stepDeadline := none }
  let s := recomputeProof i s
  let s := driveOutput i (s.side i).proof s
  startWatch i (raiseLoopTestDone i s)

/-- R121: the verdict of an aborted test. -/
def abortVerdict (prior : Option Verdict) : Verdict := if prior = some .fail then .fail else .aborted

/-- R121: a running test is aborted; with no test running nothing happens. -/
def abortTest (i : Side) (s : State) : State :=
  if (s.side i).verdict = .running then endTest i (abortVerdict (s.side i).priorVerdict) s else s

/-- R112, R121: a change of state of a doorway reaches the proof and loop block. -/
def doorChanged (d : Doorway) (s : State) : State :=
  if (s.side d.side).verdict = .running ∧ (s.door d).state.testable = false then abortTest d.side s
  else recomputeProof d.side s

/-- R119: the pattern bit of a step, asserted or not. -/
def patternBit (step : Nat) : Bool := Config.testPattern.getD step false

/-- R117: a LOOP TEST is accepted on a side. -/
def loopTestAccepted (s : State) (i : Side) : Bool :=
  s.zeroSpeed && i.doorways.all (fun d => (s.door d).state.testable) &&
    decide ((s.side i).verdict ≠ .running)

/-- R118: the test starts. -/
def startTest (i : Side) (s : State) : State :=
  let s := s.modSide i fun r =>
    { r with priorVerdict := some r.verdict, verdict := .running, mismatches := 0, step := 0,
             watch := .inactive }
  let s := recomputeProof i s
  s.modSide i fun r =>
    { r with output := patternBit 0, stepDeadline := some (after s.time Config.testStep) }

/-- R119: the step deadline expires: the return is compared, and the test advances or ends (R120). -/
def testStepEnds (i : Side) (s : State) : State :=
  let r := s.side i
  let mismatches := if r.loopClosed = patternBit r.step then r.mismatches else r.mismatches + 1
  let s := s.modSide i fun r => { r with mismatches := mismatches }
  if r.step < 15 then
    s.modSide i fun r =>
      { r with step := r.step + 1, output := patternBit (r.step + 1),
               stepDeadline := some (after s.time Config.testStep) }
  else endTest i (if mismatches = 0 then .pass else .fail) s

/-- R115: a LOOP_OPEN event. -/
def declareLoopOpen (i : Side) (s : State) : State :=
  raiseLoopMonitor i .loopOpen
    (s.modSide i fun r => { r with monitorEvents := bump r.monitorEvents, watch := .reported })

/-- R116: a LOOP_STUCK event: the verdict becomes FAIL and the proof is computed again. -/
def declareLoopStuck (i : Side) (s : State) : State :=
  let s := s.modSide i fun r =>
    { r with monitorEvents := bump r.monitorEvents, watch := .reported, verdict := .fail }
  recomputeProof i (raiseLoopMonitor i .loopStuck s)

end Sys2Proof.Machine
end

