-- ==== Sys2Proof/Machine/Arbiter.lean ====
section
/-! DEFINITION. The supply arbiter's queues, sums and pairs (chapter 5), without the grant decision,
which begins motions and so stands with the sequencers (Machine/Sequencer.lean). -/

namespace Sys2Proof.Machine

open Sys2Proof

/-- The queue of a class (R92). -/
def Arbiter.queue (a : Arbiter) : GrantClass → List Entry
  | .urgent => a.urgent
  | .ordinary => a.ordinary

def Arbiter.setQueue (a : Arbiter) (c : GrantClass) (q : List Entry) : Arbiter :=
  match c with
  | .urgent => { a with urgent := q }
  | .ordinary => { a with ordinary := q }

/-- Where a doorway's pending motion stands. -/
def setStanding (d : Doorway) (w : Standing) (s : State) : State :=
  s.modDoor d fun r =>
    { r with pendingMotion := r.pendingMotion.map fun m => { m with stand := w } }

/-- R100: an entry appended to a queue takes its late deadline; a deadline that is reached already
expires at once. -/
def appendToQueue (e : Entry) (s : State) : State :=
  let deadline := after e.posted s.settings.grantLate
  let late := decide (s.settings.grantLate ≤ elapsed s.time e.posted)
  let e := { e with lateDeadline := deadline, lateReported := late }
  let s := s.modArbiter fun a => a.setQueue e.cls (a.queue e.cls ++ [e])
  let s := setStanding e.door .queued s
  if late then raiseGrantLate e.door s else s

/-- R94: the wait list is ordered by posted time, oldest first, equal times by doorway number; a new
posting is the newest. -/
def insertWaiting (e : Entry) : List Entry → List Entry
  | [] => [e]
  | x :: xs =>
    if x.posted = e.posted ∧ e.door.number < x.door.number then e :: x :: xs
    else x :: insertWaiting e xs

/-- R94: a posted request is appended to the queue of its class, or placed on the wait list when that
queue is full. -/
def placeRequest (e : Entry) (s : State) : State :=
  if (s.arbiter.queue e.cls).length < Config.queueDepth then appendToQueue e s
  else
    setStanding e.door .waitListed (s.modArbiter fun a => { a with waiting := insertWaiting e a.waiting })

/-- R95: when a slot is free, the oldest wait-listed request of the class enters its queue. -/
def fillSlot (c : GrantClass) (s : State) : State :=
  match s.arbiter.waiting.find? fun e => e.cls = c with
  | none => s
  | some e =>
    if (s.arbiter.queue c).length < Config.queueDepth then
      appendToQueue e
        (s.modArbiter fun a => { a with waiting := a.waiting.filter fun x => x.door ≠ e.door })
    else s

/-- R96: the doorway's request is removed from the queue of a class, and the slot freed is filled. -/
def removeRequest (d : Doorway) (c : GrantClass) (s : State) : State :=
  fillSlot c (s.modArbiter fun a => a.setQueue c ((a.queue c).filter fun e => e.door ≠ d))

/-- R96: a wait-listed request is removed from the wait list. -/
def removeWaiting (d : Doorway) (s : State) : State :=
  s.modArbiter fun a => { a with waiting := a.waiting.filter fun e => e.door ≠ d }

/-- R97: a head fits a pair of allowance and reserve. -/
def fitsPair (a : Arbiter) (e : Entry) (pr : AllowancePair) : Bool :=
  decide (a.heldTotal + e.amount ≤ pr.allowance) &&
    match e.cls with
    | .urgent => true
    | .ordinary => decide (a.heldOrdinary + e.amount ≤ pr.allowance - pr.reserve)

/-- R97: a head is granted if it fits the active pair and, while one stands, the pending pair. -/
def grantable (a : Arbiter) (e : Entry) : Bool :=
  fitsPair a e a.active &&
    match a.pair with
    | none => true
    | some pr => fitsPair a e pr

/-- R97: the head that the decision grants next: the urgent head, or with no urgent request the ordinary
head, if it can be granted. While the supply is lost the arbiter grants nothing (R105). -/
def nextGrant (a : Arbiter) : Option Entry :=
  match a.supply with
  | .lost => none
  | .healthy =>
    match a.urgent, a.ordinary with
    | e :: _, _ => if grantable a e then some e else none
    | [], e :: _ => if grantable a e then some e else none
    | [], [] => none

/-- R9: an opening or reopening is begun only while zero speed is asserted. Outside the event of R87 no
such head stands without zero speed (R7, R26); inside it a decision stops at the head of a doorway whose
turn has not come (log 7). -/
def mayBegin (s : State) (e : Entry) : Bool := s.zeroSpeed || decide (e.motion = .toClose)

/-- R98: the entry leaves the head of its queue, its amount joins the sums, the grant is written into
the doorway record with the pending motion absent, and the slot is filled. -/
def takeGrant (e : Entry) (s : State) : State :=
  let s := s.modArbiter fun a =>
    let a := a.setQueue e.cls (a.queue e.cls).tail
    { a with heldTotal := a.heldTotal + e.amount,
             heldOrdinary := if e.cls = .ordinary then a.heldOrdinary + e.amount else a.heldOrdinary }
  let s := s.modDoor e.door fun r =>
    { r with grant := some { amount := e.amount, cls := e.cls }, pendingMotion := none }
  fillSlot e.cls s

/-- R103: the pending pair becomes active once the sums held fit it. -/
def activatePair (a : Arbiter) : Arbiter :=
  match a.pair with
  | none => a
  | some pr =>
    if a.heldTotal ≤ pr.allowance ∧ a.heldOrdinary ≤ pr.allowance - pr.reserve then
      { a with active := pr, pair := none }
    else a

/-- R99: the sums after a grant is given back. -/
def giveBack (g : Grant) (a : Arbiter) : Arbiter :=
  { a with heldTotal := a.heldTotal - g.amount,
           heldOrdinary := if g.cls = .ordinary then a.heldOrdinary - g.amount else a.heldOrdinary }

/-- R93: the amount of a request, read from the car settings at the posting. -/
def amountOf (c : CarSettings) : Motion → Nat
  | .toOpen => c.aopen
  | .toClose => c.aclose
  | .reopen | .fullReopen => c.areopen

/-- R102: the pair that the allowance field writes. -/
def withAllowance (a : Arbiter) (v : Nat) : AllowancePair :=
  { allowance := v, reserve := min v (match a.pair with | some pr => pr.reserve | none => a.active.reserve) }

/-- R102: the greatest reserve the reserve field may write. -/
def reserveBound (a : Arbiter) : Nat :=
  match a.pair with | some pr => pr.allowance | none => a.active.allowance

end Sys2Proof.Machine
end

