-- ==== Sys2Proof/Machine/Sequencer.lean ====
section
/-! DEFINITION. The doorway sequencers (chapter 1), the obstruction event (chapter 2) and the grant
decision (R97).

A release, a posting and a removal each call for the arbiter's grant decision (R97), and a grant can in
turn release or post (R9). So every operation that may call for a decision takes the decision as its
argument `dec`, and `grantDecision` ties the knot by a bounded recursion (log 6, log 9). The postings of a
restore, whose one decision stands at its end (R107), are given `id`.

Within one operation the doorway's own record is changed first, the proof and loop block told, then the
grant given back, then the new pending motion posted (log 8). Records that no run reaches are answered by
the arm that stands for their state (log 31). -/

namespace Sys2Proof.Machine

open Sys2Proof

/-- R5, R14, R21, R39: a doorway takes a state. OPEN_SHORT, the pause purpose, the coil, the stall watch,
the moment of the drive's switching off and the open-attempt count follow the state as their rules say;
STATE attention is raised where R5 says so; the change reaches the proof and loop block. -/
def takeState (d : Doorway) (st : DoorState) (s : State) : State :=
  let s := s.modDoor d fun r =>
    { r with
      state := st
      driveOff := driveOffAfter s.time r st
      openShort := decide (st = .opened) && !atOpen r.profile r.p
      pausePurpose := if st = .paused then r.pausePurpose else none
      openAttempts := if st = .locked then 0 else r.openAttempts
      coil :=
        match st with
        | .unlocking => true
        | .opening => inLockWindow r.p
        | _ => false
      stallWatch :=
        if st.driving then some { reference := r.p, deadline := after s.time Config.stallTime }
        else none }
  let s :=
    match st with
    | .obstructedOpen | .emergency | .isolated | .fault => raiseState d st s
    | _ => s
  doorChanged d s

/-- R8, R99: the doorway gives back its grant, if it holds one; the arbiter examines the pending pair
and takes its decision. -/
def releaseGrant (dec : State → State) (d : Doorway) (s : State) : State :=
  match (s.door d).grant with
  | none => s
  | some g =>
    dec ((s.modDoor d fun r => { r with grant := none }).modArbiter
      fun a => activatePair (giveBack g a))

/-- R7, R96: the pending motion is withdrawn from where it stands and cleared. A deferral that ends so
has its hold deadline stopped (R83). -/
def withdraw (dec : State → State) (d : Doorway) (s : State) : State :=
  match (s.door d).pendingMotion with
  | none => s
  | some m =>
    let s := s.modDoor d fun r =>
      { r with pendingMotion := none,
               holdDeadline := if m.stand = .deferred then none else r.holdDeadline }
    match m.stand with
    | .queued => dec (removeRequest d m.cls s)
    | .waitListed => removeWaiting d s
    | .withheld | .deferred | .unposted => s

/-- R81: the doorway's hold is effective. -/
def holdEffective (s : State) (d : Doorway) : Bool :=
  (s.door d).platform.hold && !(s.door d).platform.overridden && decide (s.link.lock = .locked) &&
    s.zeroSpeed

/-- R7 case 5, R94: the pending motion is placed in its queue or on the wait list, its amount read now;
the arbiter then decides. -/
def enqueuePending (dec : State → State) (d : Doorway) (s : State) : State :=
  match (s.door d).pendingMotion with
  | none => s
  | some m =>
    dec (placeRequest
      { door := d, motion := m.kind, cls := m.cls, amount := amountOf s.settings m.kind,
        posted := s.time, lateDeadline := s.time, lateReported := false } s)

/-- R83: whether HoldLimit has already passed since the close time; an absent close time counts from
now. -/
def holdExpired (s : State) (d : Doorway) : Bool :=
  match (s.door d).closeTime with
  | none => decide (s.settings.holdLimit = 0)
  | some t => decide (s.settings.holdLimit ≤ elapsed s.time t)

/-- R83: the deadline of a deferral that begins now. -/
def deferralDeadline (s : State) (d : Doorway) : Time :=
  match (s.door d).closeTime with
  | none => after s.time s.settings.holdLimit
  | some t => after t s.settings.holdLimit

/-- R83, R84: a deferral begins; where its deadline is not ahead it expires at once: the overridden flag
is set and the CLOSE is posted. -/
def startDeferral (dec : State → State) (d : Doorway) (s : State) : State :=
  if holdExpired s d then
    enqueuePending dec d
      (s.modDoor d fun r => { r with platform := { r.platform with overridden := true } })
  else
    (setStanding d .deferred s).modDoor d fun r => { r with holdDeadline := some (deferralDeadline s d) }

/-- R7: the pending motion is posted, or left UNPOSTED, cleared, WITHHELD or DEFERRED. -/
def postPending (dec : State → State) (d : Doorway) (s : State) : State :=
  match (s.door d).pendingMotion with
  | none => s
  | some m =>
    if s.arbiter.supply = .lost then setStanding d .unposted s
    else if s.zeroSpeed = false ∧ m.kind = .toOpen then
      s.modDoor d fun r => { r with pendingMotion := none }
    else if s.zeroSpeed = false ∧ m.kind ≠ .toClose then setStanding d .withheld s
    else if m.kind = .toClose ∧ m.cls = .ordinary ∧ holdEffective s d = true then startDeferral dec d s
    else enqueuePending dec d s

/-- R7: a pending motion is set and posted. One of the same kind and class leaves the pending motion
where it stands; any other is withdrawn first. -/
def setPending (dec : State → State) (d : Doorway) (kind : Motion) (cls : GrantClass)
    (target : Option Nat) (s : State) : State :=
  let put := fun (s : State) =>
    postPending dec d
      (s.modDoor d fun r =>
        { r with pendingMotion := some { kind := kind, cls := cls, stand := .unposted, target := target } })
  match (s.door d).pendingMotion with
  | none => put s
  | some m => if m.kind = kind ∧ m.cls = cls then s else put (withdraw dec d s)

/-- Go on only where the doorway has not relatched on the way. -/
def unlessLocked (d : Doorway) (f : State → State) (s : State) : State :=
  if (s.door d).state = .locked then s else f s

/-- R19: a doorway resting in OPEN, STOPPED or PAUSED with p ≤ 3 and its lock switch reading locked takes
LOCKED. -/
def relatch (dec : State → State) (d : Doorway) (s : State) : State :=
  let r := s.door d
  if r.state.relatches = true ∧ inLockWindow r.p = true ∧ r.inputs.lockLocked = true then
    let retry : Bool := decide (r.state = .paused ∧ r.pausePurpose = some .openRetry) && r.pauseTimer.isSome
    let keep : Bool :=
      match r.pendingMotion with
      | some m => decide (m.kind = .toOpen)
      | none => true
    let s := s.modDoor d fun r => { r with k := 0, pauseTimer := none, holdDriven := false }
    let s := takeState d .locked s
    let s := if keep then s else withdraw dec d s
    if retry then setPending dec d .toOpen .ordinary none s else s
  else s

/-- R18, R59, R60: the lock is made in LOCKING: the doorway takes LOCKED, the reference table evaluates
learning, and the close grant is given back. The excess counter returns to 0 because the closing motion
ends (R30, log 15). -/
def lockMade (dec : State → State) (d : Doorway) (s : State) : State :=
  let s := s.modDoor d fun r =>
    { r with
      lockTimer := none, closeDeadline := none, k := 0, holdDriven := false, excess := 0
      refs := if r.learnPermit then learnedEntries r.refs r.peaks r.marks else r.refs
      learnPermit := false }
  releaseGrant dec d (takeState d .locked s)

/-- R13: the opening ends at the open position. -/
def openReached (dec : State → State) (d : Doorway) (s : State) : State :=
  let s := s.modDoor d fun r => { r with k := 0, openAttempts := 0 }
  releaseGrant dec d (takeState d .opened s)

/-- R20: the reopening ends at its target. -/
def reopenReached (dec : State → State) (d : Doorway) (s : State) : State :=
  let r := s.door d
  if (r.attempt.map fun a => a.motion) = some .fullReopen then
    if r.holdDriven then
      let s := s.modDoor d fun r => { r with holdDriven := false }
      setPending dec d .toClose .ordinary none (releaseGrant dec d (takeState d .opened s))
    else releaseGrant dec d (takeState d .obstructedOpen s)
  else
    let s := s.modDoor d fun r =>
      { r with pausePurpose := some .closeRetry,
               pauseTimer := some (after s.time r.profile.reopenPause) }
    releaseGrant dec d (takeState d .paused s)

/-- R51: a record is added at the head; the oldest of a full list leaves and the overflow count rises. -/
def addHistory (rec : HistoryRecord) (r : Door) : Door :=
  { r with
    history := (rec :: r.history).take Config.historyDepth
    overflow := if Config.historyDepth ≤ r.history.length then bump r.overflow else r.overflow }

/-- R52: the record of an event at a doorway as its record stands. -/
def historyRecord (now : Time) (dir : Direction) (cause : ObstructionCause) (zone : Option Zone)
    (threshold limit : Option Nat) (r : Door) : HistoryRecord :=
  { stamp := now, direction := dir, cause := cause, p := r.p, segment := segmentOf r.profile r.p,
    k := r.k, force := r.lastForce, zone := zone, threshold := threshold, limit := limit }

/-- R43 step 4, R48, R50: the event is recorded, the last obstruction cause set and OBSTRUCTION
attention raised. -/
def recordObstruction (d : Doorway) (dir : Direction) (cause : ObstructionCause) (zone : Option Zone)
    (threshold limit : Option Nat) (s : State) : State :=
  raiseObstruction d
    (s.modDoor d fun r =>
      { addHistory (historyRecord s.time dir cause zone threshold limit r) r with
        lastCause := some cause })

/-- R6, R44: the target of a REOPEN set now. -/
def reopenTarget (r : Door) : Nat := min (r.p + r.profile.dro) r.profile.lstroke

/-- R44: the reversal that an obstruction sets. -/
def setReversal (dec : State → State) (d : Doorway) (s : State) : State :=
  let r := s.door d
  if s.zeroSpeed = true ∧ r.profile.kmax < r.k then
    setPending dec d .fullReopen .urgent (some r.profile.lstroke) s
  else setPending dec d .reopen .urgent (some (reopenTarget r)) s

/-- R43, R44: the obstruction event. Its moment is kept for what arrives with it (R18, R46, log 41). -/
def obstruct (dec : State → State) (d : Doorway) (cause : ObstructionCause) (zone : Option Zone)
    (threshold limit : Option Nat) (s : State) : State :=
  let s := s.modDoor d fun r =>
    { r with
      closeDeadline := none, lockTimer := none, excess := 0, k := r.k + 1, holdDriven := false
      obstructedAt := some s.time }
  let s := recordObstruction d .closing cause zone threshold limit s
  let s := relatch dec d (releaseGrant dec d (takeState d .stopped s))
  unlessLocked d (setReversal dec d) s

/-- R17, R18, R41: the doorway takes LOCKING with its lock timer started; a lock switch that already
reads locked is taken at the entry. -/
def enterLocking (dec : State → State) (d : Doorway) (s : State) : State :=
  let s := s.modDoor d fun r =>
    { r with lockTimer := r.attempt.map fun a => after s.time a.lockTime }
  let s := takeState d .locking s
  if (s.door d).inputs.lockLocked then lockMade dec d s else s

/-- R10: the attempt fields latched from the profile. -/
def latch (now : Time) (r : Door) (motion : Motion) (speed : Nat) (target : Option Nat)
    (fromOpen : Bool) : Attempt :=
  { motion := motion, start := now, startPos := r.p, speed := speed,
    plugSpeed := min r.profile.vplug speed, fabsRun := r.profile.fabsRun,
    fabsPlug := r.profile.fabsPlug, mrun := r.profile.mrun, mplug := r.profile.mplug,
    kSamples := r.profile.kSamples, edgeMute := r.profile.edgeMute, ioff := r.profile.ioff,
    gain := r.profile.gain, unlockTime := r.profile.unlockTime, lockTime := r.profile.lockTime,
    tclose := r.profile.tclose, target := target, beganFromOpen := fromOpen }

/-- R9, R108: an OPEN granted now ends at once: in OPEN at the open position, and in HALTED there, where
R9's table gives OPENING and R108 the end (log 35). -/
def opensAtOnce (r : Door) : Bool :=
  decide (r.state = .opened ∨ r.state = .halted) && atOpen r.profile r.p

/-- R9, R10, R30, R57, R108: the grant of an OPEN. -/
def beginOpening (dec : State → State) (d : Doorway) (s : State) : State :=
  let r := s.door d
  let s := s.modDoor d fun r =>
    { r with attempt := some (latch s.time r .toOpen (openingSpeed r.profile) none false),
             motionCap := kineticCap r.profile, lastForce := none, learnPermit := false }
  if opensAtOnce r then openReached dec d s
  else if r.state = .locked ∨ r.inputs.lockLocked = true then
    takeState d .unlocking
      (s.modDoor d fun r => { r with unlockTimer := some (after s.time r.profile.unlockTime) })
  else takeState d .opening s

/-- R9, R10: the began-from-open flag of a CLOSE granted now. -/
def beginsFromOpen (r : Door) : Bool :=
  decide (r.state = .opened ∧ r.k = 0) && atOpen r.profile r.p

/-- R9, R10, R30, R57, R58: the record at the grant of a CLOSE, before the doorway takes its state. -/
def closingRecord (now : Time) (r : Door) : Door :=
  let k := min r.k r.profile.kmax
  { r with
    k := k
    attempt := some
      (latch now r .toClose (closingSpeed r.profile k) none (beginsFromOpen r))
    motionCap := kineticCap r.profile
    closeDeadline := some (after now r.profile.tclose)
    excess := 0
    peaks := List.replicate Config.segments 0
    marks := List.replicate Config.segments false
    lastForce := none
    envelope := r.refs
    learnPermit := beginsFromOpen r && r.profile.learnEnable }

/-- R9, R17, R37: the grant of a CLOSE. An edge pressed at or above EdgeMute obstructs at the start. -/
def beginClosing (dec : State → State) (d : Doorway) (s : State) : State :=
  let s := s.modDoor d (closingRecord s.time)
  let r := s.door d
  if inLockWindow r.p then enterLocking dec d s
  else
    let s := takeState d .closing s
    if r.inputs.edgePressed = true ∧ r.profile.edgeMute ≤ r.p then
      obstruct dec d .edge none none none s
    else s

/-- R9, R10, R30, R57: the grant of a REOPEN or FULL_REOPEN. -/
def beginReopening (dec : State → State) (d : Doorway) (kind : Motion) (target : Option Nat)
    (s : State) : State :=
  let r := s.door d
  let s := s.modDoor d fun r =>
    { r with attempt := some (latch s.time r kind (openingSpeed r.profile) target false),
             motionCap := kineticCap r.profile, lastForce := none, learnPermit := false }
  if target.getD r.profile.lstroke ≤ r.p then reopenReached dec d s else takeState d .reopening s

/-- R9: the motion of a grant begins. -/
def beginMotion (dec : State → State) (d : Doorway) (kind : Motion) (target : Option Nat)
    (s : State) : State :=
  match kind with
  | .toOpen => beginOpening dec d s
  | .toClose => beginClosing dec d s
  | .reopen => beginReopening dec d .reopen target s
  | .fullReopen => beginReopening dec d .fullReopen target s

/-- R98: one grant: the arbiter's part, then the doorway's motion begins. -/
def grantEntry (dec : State → State) (e : Entry) (s : State) : State :=
  beginMotion dec e.door e.motion ((s.door e.door).pendingMotion.bind fun m => m.target)
    (takeGrant e s)

/-- R97: the grant decision repeats until a step stops it; at most the given number of grants is nested
or in sequence. -/
def grantDecisionFuel : Nat → State → State
  | 0, s => s
  | n + 1, s =>
    match (nextGrant s.arbiter).filter (mayBegin s) with
    | none => s
    | some e => grantDecisionFuel n (grantEntry (grantDecisionFuel n) e s)

/-- R97: the arbiter takes its grant decision. -/
def grantDecision (s : State) : State := grantDecisionFuel Config.decisionFuel s

end Sys2Proof.Machine
end

