-- ==== Sys2Proof/Machine/Demands.lean ====
section
/-! DEFINITION. Demands acting on a doorway (R24 to R27) and the demand book (chapter 4): recordings and
stamps, releases, gates, service mode, holds and their deferrals, zero speed, and the silent close. -/

namespace Sys2Proof.Machine

open Sys2Proof

/-! ### Demands acting on a doorway -/

/-- R24, "stops are made as in R24": drive and coil off, the excess counter 0, the close deadline, lock
timer and unlock timer stopped, the doorway STOPPED and its grant given back; a latched doorway in the
lock window relatches at once (R19, log 10). -/
def stopMotion (dec : State → State) (d : Doorway) (s : State) : State :=
  let s := s.modDoor d fun r =>
    { r with excess := 0, closeDeadline := none, lockTimer := none, unlockTimer := none }
  relatch dec d (releaseGrant dec d (takeState d .stopped s))

/-- R24: an OPEN acts on a doorway. -/
def actOpen (dec : State → State) (d : Doorway) (s : State) : State :=
  let r := s.door d
  let open' := setPending dec d .toOpen .ordinary none
  match r.state with
  | .locked => open' s
  | .unlocking | .opening => s
  | .opened =>
    let s := s.modDoor d fun r => { r with k := 0 }
    if r.openShort then open' (s.modDoor d fun r => { r with openAttempts := 0 })
    else if (r.pendingMotion.map fun m => m.kind) = some .toClose then withdraw dec d s
    else s
  | .closing | .locking => open' (stopMotion dec d (s.modDoor d fun r => { r with k := 0 }))
  | .stopped | .halted => open' (s.modDoor d fun r => { r with k := 0, holdDriven := false })
  | .reopening =>
    open' (stopMotion dec d (s.modDoor d fun r => { r with k := 0, holdDriven := false }))
  | .paused =>
    open' (s.modDoor d fun r =>
      { r with pauseTimer := none, pausePurpose := some .openRetry, k := 0 })
  | .obstructedOpen =>
    let s := takeState d .opened (s.modDoor d fun r => { r with k := 0 })
    relatch dec d (withdraw dec d s)
  | .emergency | .isolated | .fault => s

/-- The kind of a doorway's pending motion. -/
def pendingKind (r : Door) : Option Motion := r.pendingMotion.map fun m => m.kind

/-- R25: a CLOSE in UNLOCKING: the lock has not left its latch, and the doorway takes LOCKED. -/
def abandonUnlock (dec : State → State) (d : Doorway) (s : State) : State :=
  let s := s.modDoor d fun r => { r with unlockTimer := none, unlockFailures := 0 }
  releaseGrant dec d (takeState d .locked s)

/-- R46: a doorway on which an obstruction of this moment lets no CLOSE act: its reversal waits, or has ended
at its grant in OBSTRUCTED_OPEN (log 41). -/
def spared (now : Time) (r : Door) : Bool :=
  decide (r.obstructedAt = some now) &&
    match r.state with
    | .obstructedOpen => true
    | .stopped | .halted => decide (pendingKind r = some .reopen ∨ pendingKind r = some .fullReopen)
    | _ => false

/-- R25: a CLOSE acts on a doorway. The open-attempt count returns to 0 (R1) but in the rows of "no change"
(log 13). A STOPPED or HALTED doorway with nothing pending takes the CLOSE (log 32). One that arrives with an
obstruction has no effect on the doorway obstructed (R46, log 41). -/
def actClose (dec : State → State) (d : Doorway) (s : State) : State :=
  let r := s.door d
  let close' := setPending dec d .toClose .ordinary none
  if spared s.time r then s
  else match r.state with
  | .locked =>
    if pendingKind r = some .toOpen then
      withdraw dec d (s.modDoor d fun r => { r with unlockFailures := 0 })
    else s
  | .unlocking => abandonUnlock dec d s
  | .opening =>
    unlessLocked d close' (stopMotion dec d (s.modDoor d fun r => { r with openAttempts := 0 }))
  | .opened | .obstructedOpen =>
    if pendingKind r = some .toClose then s
    else close' (s.modDoor d fun r => { r with k := 0, openAttempts := 0 })
  | .closing | .locking | .reopening => s
  | .stopped =>
    let s := s.modDoor d fun r => { r with openAttempts := 0 }
    if pendingKind r = some .toOpen ∨ pendingKind r = none then close' s else s
  | .paused =>
    if r.pausePurpose = some .openRetry then
      close' (s.modDoor d fun r =>
        { r with pauseTimer := none, pausePurpose := some .closeRetry, k := 0, openAttempts := 0 })
    else s
  | .halted =>
    if pendingKind r = some .toOpen ∨ pendingKind r = none then
      close' (s.modDoor d fun r => { r with k := 0, openAttempts := 0 })
    else s.modDoor d fun r => { r with openAttempts := 0 }
  | .emergency | .isolated | .fault => s

/-- R26: the zero-speed close acts on a doorway. HOLD_DRIVEN stands as it was at a STOPPED doorway (log 14). -/
def actZeroSpeedClose (dec : State → State) (d : Doorway) (s : State) : State :=
  let r := s.door d
  let urgent := setPending dec d .toClose .urgent none
  match r.state with
  | .locked =>
    if pendingKind r = some .toOpen then
      withdraw dec d (s.modDoor d fun r => { r with unlockFailures := 0 })
    else s
  | .unlocking => abandonUnlock dec d s
  | .opening => unlessLocked d urgent (stopMotion dec d s)
  | .opened => urgent (s.modDoor d fun r => { r with k := 0, openAttempts := 0 })
  | .closing | .locking => s
  | .stopped => urgent s
  | .reopening =>
    unlessLocked d urgent (stopMotion dec d (s.modDoor d fun r => { r with holdDriven := false }))
  | .paused =>
    urgent (s.modDoor d fun r => { r with pauseTimer := none, pausePurpose := some .closeRetry })
  | .obstructedOpen => urgent (s.modDoor d fun r => { r with k := 0 })
  | .halted => urgent (s.modDoor d fun r => { r with holdDriven := false })
  | .emergency | .isolated | .fault => s

/-- R87 step 3: the states that the zero-speed close leaves with a pending CLOSE. -/
def DoorState.closesAtLoss : DoorState → Bool
  | .opening | .opened | .stopped | .reopening | .paused | .obstructedOpen | .halted => true
  | _ => false

/-- R27: a delivered hold stops a closing in the run zone. -/
def holdStop (dec : State → State) (d : Doorway) (s : State) : State :=
  unlessLocked d
    (fun s =>
      setPending dec d .fullReopen .urgent (some (s.door d).profile.lstroke)
        (s.modDoor d fun r => { r with holdDriven := true }))
    (stopMotion dec d s)

/-! ### Recordings -/

/-- R70: the kinds whose recording sets the close time. -/
def CarKind.closing : CarKind → Bool
  | .closeDemand | .forcedClose | .zeroSpeedClose | .silentClose => true
  | .none | .openDemand => false

/-- R70: the demand counter rises; the record takes its value after the rise. -/
def nextStamp (s : State) : Stamp := s.demandCounter + 1

/-- R70: a car record is made. -/
def recordCar (d : Doorway) (kind : CarKind) (s : State) : State :=
  { s.modDoor d (fun r =>
      { r with carKind := kind, carStamp := nextStamp s,
               closeTime := if kind.closing then some s.time else r.closeTime }) with
    demandCounter := nextStamp s }

/-- R70: a service record is made. -/
def recordService (d : Doorway) (kind : ServiceKind) (s : State) : State :=
  { s.modDoor d (fun r =>
      { r with serviceKind := kind, serviceStamp := nextStamp s,
               closeTime := if kind = .localClose then some s.time else r.closeTime }) with
    demandCounter := nextStamp s }

/-- R70, R72: a release record is made. -/
def recordRelease (i : Side) (mode : ReleaseMode) (s : State) : State :=
  { s.modSide i (fun r => { r with release := mode, releaseStamp := nextStamp s }) with
    demandCounter := nextStamp s }

/-- R71: the selected doorways that the demand does not pass over. -/
def reachable (s : State) (mask : Byte) : List Doorway :=
  (selected mask).filter fun d => !(s.door d).state.outOfControl

/-! ### Releases, gates and demands -/

/-- R72: SIDE RELEASE acts at zero speed: the record takes the mode, and a change from NONE is handed to
the platform link monitor. -/
def sideReleaseActs (i : Side) (mode : ReleaseMode) (s : State) : State :=
  if (s.side i).release = .none then queueTrigger .sideReleased i (recordRelease i mode s)
  else recordRelease i mode s

/-- R74: the first gate in the table's order that fails. -/
def failedGate (s : State) (d : Doorway) : Option Gate :=
  let release := (s.side d.side).release
  if s.zeroSpeed = false then some .zeroSpeed
  else if release = .none then some .release
  else if release = .screened ∧ ¬(s.link.lock = .locked ∧ (s.door d).platform.faced = true) then
    some .platform
  else none

/-- R74: the car OPEN at one doorway. -/
def openAt (d : Doorway) (s : State) : State :=
  match failedGate s d with
  | some g => raiseOpenRefused d g s
  | none =>
    let s := recordCar d .openDemand s
    if s.serviceMode then s else actOpen grantDecision d s

/-- R74: OPEN. -/
def carOpenActs (mask : Byte) (s : State) : State := forDoors (reachable s mask) openAt s

/-- R76: the car CLOSE at one doorway. -/
def closeAt (d : Doorway) (s : State) : State :=
  let s := recordCar d .closeDemand s
  if s.serviceMode then s else actClose grantDecision d s

/-- R76: CLOSE. -/
def carCloseActs (mask : Byte) (s : State) : State := forDoors (reachable s mask) closeAt s

/-- R83: a deferral ends: its deadline is stopped and the pending CLOSE is posted. -/
def endDeferral (d : Doorway) (s : State) : State :=
  if ((s.door d).pendingMotion.map fun m => m.stand) = some .deferred then
    postPending grantDecision d (s.modDoor d fun r => { r with holdDeadline := none })
  else s

/-- R77, R78: a forced closing with service mode off: the override while the link is LOCKED, the end of
a deferral, then a CLOSE acting. -/
def forcedCloseActsAt (d : Doorway) (s : State) : State :=
  let s :=
    if s.link.lock = .locked then
      endDeferral d (s.modDoor d fun r => { r with platform := { r.platform with overridden := true } })
    else s
  actClose grantDecision d s

/-- R77: FORCED CLOSE at one doorway. -/
def forcedCloseAt (d : Doorway) (s : State) : State :=
  let s := recordCar d .forcedClose s
  if s.serviceMode then s else forcedCloseActsAt d s

/-- R77: FORCED CLOSE. -/
def forcedCloseActs (mask : Byte) (s : State) : State := forDoors (reachable s mask) forcedCloseAt s

/-- R75: LOCAL OPEN with service mode on. -/
def localOpenActs (mask : Byte) (s : State) : State :=
  forDoors (reachable s mask) (fun d s => actOpen grantDecision d (recordService d .localOpen s)) s

/-- R75: LOCAL CLOSE with service mode on. -/
def localCloseActs (mask : Byte) (s : State) : State :=
  forDoors (reachable s mask) (fun d s => actClose grantDecision d (recordService d .localClose s)) s

/-- R78: the service record is newer than the car record. -/
def serviceNewer (r : Door) : Bool :=
  decide (r.serviceKind ≠ .none) && newer r.serviceStamp r.carStamp

/-- R78: the evaluation of one doorway at the end of service mode. -/
def evaluateCarRecord (d : Doorway) (s : State) : State :=
  let r := s.door d
  if r.state.outOfControl = true ∨ serviceNewer r = true then s
  else
    match r.carKind with
    | .none => s
    | .openDemand =>
      match failedGate s d with
      | none => actOpen grantDecision d s
      | some g =>
        (raiseOpenRefused d g s).modDoor d fun r => { r with carKind := .none, carStamp := 0 }
    | .closeDemand | .silentClose | .zeroSpeedClose => actClose grantDecision d s
    | .forcedClose => forcedCloseActsAt d s

/-- R78: service mode ends by SERVICE MODE off. -/
def endServiceMode (s : State) : State :=
  forDoors Doorway.all evaluateCarRecord { s with serviceMode := false }

/-! ### Holds -/

/-- R82: the time since the close time; an absent close time counts as the moment of the grant. -/
def sinceCloseTime (s : State) (d : Doorway) : Nat :=
  match (s.door d).closeTime, (s.door d).attempt with
  | some t, _ => elapsed s.time t
  | none, some a => elapsed s.time a.start
  | none, none => 0

/-- R82: a doorway's effective hold rises. A queued CLOSE leaves its queue, its deferral begins or, with
HoldLimit passed, ends at once with a new posting (R83), and the decision of the removal (R96) is taken
after that (log 40). -/
def holdRises (d : Doorway) (s : State) : State :=
  let r := s.door d
  if r.state = .closing then
    if r.profile.pz ≤ r.p ∧ (r.grant.map fun g => g.cls) = some .ordinary then
      if sinceCloseTime s d < s.settings.holdLimit then holdStop grantDecision d s
      else s.modDoor d fun r => { r with platform := { r.platform with overridden := true } }
    else s
  else
    match r.pendingMotion with
    | none => s
    | some m =>
      if m.kind = .toClose ∧ m.cls = .ordinary then
        match m.stand with
        | .queued => grantDecision (startDeferral grantDecision d (removeRequest d .ordinary s))
        | .waitListed => startDeferral grantDecision d (removeWaiting d s)
        | .withheld | .deferred | .unposted => s
      else s

/-- R83: a doorway's effective hold falls: a deferral ends. -/
def holdFalls (d : Doorway) (s : State) : State := endDeferral d s

/-- R80: every platform record of both sides is cleared; then every hold that stood falls (R83). The
deferred CLOSEs are posted in ascending doorway order with a decision after each (log 24). -/
def clearPlatformRecords (s : State) : State :=
  let s := forDoors Doorway.all
    (fun d s => s.modDoor d fun r => { r with platform := PlatformRecord.cleared }) s
  forDoors Doorway.all holdFalls s

/-! ### Zero speed and silence -/

/-- R87 step 1: a release record not already NONE takes NONE with a new stamp. -/
def dropRelease (i : Side) (s : State) : State :=
  if (s.side i).release = .none then s else recordRelease i .none s

/-- R26, R87 step 3, R127: the zero-speed close of one doorway with its recording. -/
def zeroSpeedCloseAt (dec : State → State) (d : Doorway) (s : State) : State :=
  if (s.door d).state.closesAtLoss then
    actZeroSpeedClose dec d (recordCar d .zeroSpeedClose s)
  else actZeroSpeedClose dec d s

/-- R87: the loss of zero speed, one event, with a grant decision at each release, removal and posting
(R97); no opening is begun in it (R9, log 7). Running loop tests are aborted first, and of two released
sides A takes the lower stamp (R121, log 36). -/
def zeroSpeedLost (s : State) : State :=
  let s := { s with zeroSpeed := false }
  let s := abortTest .B (abortTest .A s)
  let s := dropRelease .B (dropRelease .A s)
  let s := { s with serviceMode := false }
  let s := forDoors Doorway.all (zeroSpeedCloseAt grantDecision) s
  forDoors Doorway.all (fun d s => s.modDoor d fun r => { r with holdDeadline := none }) s

/-- R7 case 3, R88: a WITHHELD reversal is posted, URGENT, its kind chosen again. -/
def postWithheld (d : Doorway) (s : State) : State :=
  let r := s.door d
  match r.pendingMotion with
  | none => s
  | some m =>
    if m.stand = .withheld then
      let m' : PendingMotion :=
        if r.k ≤ r.profile.kmax then
          { kind := .reopen, cls := .urgent, stand := .unposted, target := m.target }
        else
          { kind := .fullReopen, cls := .urgent, stand := .unposted, target := some r.profile.lstroke }
      postPending grantDecision d (s.modDoor d fun r => { r with pendingMotion := some m' })
    else s

/-- R88: the return of zero speed. The effective holds that rise are answered in ascending doorway order
(log 24). -/
def zeroSpeedRegained (s : State) : State :=
  let s := { s with zeroSpeed := true }
  let s := forDoors Doorway.all postWithheld s
  forDoors Doorway.all (fun d s => if holdEffective s d then holdRises d s else s) s

/-- R89: the book starts its silent-dwell timer when the car link becomes SILENT. -/
def startSilentDwell (s : State) : State :=
  { s with silentDwell :=
      if s.settings.silentCloseDelay = 0 then none
      else some (after s.time (s.settings.silentCloseDelay * 1000)) }

/-- R90: the doorways a silent close touches. -/
def silentlyClosed (s : State) (d : Doorway) : Bool :=
  decide ((s.door d).state = .opened ∨ (s.door d).state = .obstructedOpen) &&
    decide ((s.side d.side).release ≠ .none)

/-- R90: the silent close at one doorway. -/
def silentCloseAt (d : Doorway) (s : State) : State :=
  let s := recordCar d .silentClose s
  if s.serviceMode then s else actClose grantDecision d s

/-- R90: the silent-dwell timer expires. -/
def silentClose (s : State) : State :=
  forDoors (Doorway.all.filter (silentlyClosed s)) silentCloseAt { s with silentDwell := none }

end Sys2Proof.Machine
end

