-- ==== Sys2Proof/Machine/Leaving.lean ====
section
/-! DEFINITION. Leaving the part's control and coming back (chapter 7): the entry into EMERGENCY,
ISOLATED and FAULT, the return evaluation and RESTORE. -/

namespace Sys2Proof.Machine

open Sys2Proof

/-- R124: a doorway enters EMERGENCY, ISOLATED or FAULT; the cause is present for FAULT alone. -/
def leaveControl (d : Doorway) (st : DoorState) (cause : Option FaultCause) (s : State) : State :=
  let s := s.modDoor d fun r =>
    { r with
      unlockTimer := none, lockTimer := none, closeDeadline := none, pauseTimer := none
      excess := 0, holdDriven := false, faultCause := cause }
  withdraw grantDecision d (releaseGrant grantDecision d (takeState d st s))

/-- R124, R133: a doorway under the part's control enters FAULT with a cause. -/
def enterFault (d : Doorway) (cause : FaultCause) (s : State) : State :=
  leaveControl d .fault (some cause) s

/-- R127: the record of a doorway that comes back to the part's control. -/
def returnedRecord (r : Door) : Door :=
  { r with
    pendingMotion := none, grant := none, k := 0, openAttempts := 0, unlockFailures := 0, excess := 0
    faultCause := none, unlockTimer := none, lockTimer := none, closeDeadline := none
    pauseTimer := none, holdDriven := false }

/-- R127: the return to LOCKED. -/
def returnLocked (d : Doorway) (s : State) : State := takeState d .locked (s.modDoor d returnedRecord)

/-- R127: the return to OPEN; without zero speed the zero-speed close is applied at once. -/
def returnOpen (d : Doorway) (s : State) : State :=
  let s := takeState d .opened (s.modDoor d returnedRecord)
  if s.zeroSpeed then s else zeroSpeedCloseAt grantDecision d s

/-- R126: a doorway that the evaluation finds in EMERGENCY, ISOLATED or FAULT enters that state; in the
state it is already in, the cause is the one found and STATE attention is raised. -/
def evaluatesTo (d : Doorway) (st : DoorState) (cause : Option FaultCause) (s : State) : State :=
  if (s.door d).state = st then raiseState d st (s.modDoor d fun r => { r with faultCause := cause })
  else leaveControl d st cause s

/-- R126: the return evaluation, from the inputs as last taken. The reading of step 3 is the doorway's
next reading where a change of scale waits for one (R170, log 28). -/
def returnEvaluation (d : Doorway) (s : State) : State :=
  let r := s.door d
  let v := convert r.inputs.sensorCount r.profile.countsPerMm
  if r.inputs.handleOperated then evaluatesTo d .emergency none s
  else if r.inputs.isolationOperated then evaluatesTo d .isolated none s
  else
    let s := s.modDoor d fun r => { r with rescaled := false }
    if beyondSeat r.profile v then evaluatesTo d .fault (some .positionImplausible) s
    else
      let p := seat r.profile v
      let s := s.modDoor d fun r => { r with p := p }
      if r.inputs.overcurrent then evaluatesTo d .fault (some .driveFault) s
      else if r.inputs.lockLocked = true ∧ inLockWindow p = true then returnLocked d s
      else returnOpen d s

/-- R138: RESTORE takes each selected doorway in FAULT through the return evaluation. -/
def restoreActs (mask : Byte) (s : State) : State :=
  forDoors (selected mask)
    (fun d s => if (s.door d).state = .fault then returnEvaluation d s else s) s

end Sys2Proof.Machine
end

