-- ==== Sys2Proof/Machine/Monitor.lean ====
section
/-! DEFINITION. What a doorway's inputs and timers do: position readings (R3, R4), current samples and
their judgement (R31 to R36), the edge (R37), the lock switch (R11, R16, R18, R19), and the expiries of
its timers. -/

namespace Sys2Proof.Machine

open Sys2Proof

/-! ### Blocked motions -/

/-- R50: a blocked opening. -/
def blockOpening (d : Doorway) (cause : ObstructionCause) (zone : Option Zone) (limit : Option Nat)
    (s : State) : State :=
  let s := s.modDoor d fun r => { r with openAttempts := r.openAttempts + 1 }
  let s := recordObstruction d .opening cause zone none limit s
  let s :=
    if (s.door d).openAttempts ≤ 1 then
      takeState d .paused (s.modDoor d fun r =>
        { r with pausePurpose := some .openRetry,
                 pauseTimer := some (after s.time r.profile.reopenPause) })
    else takeState d .opened s
  relatch grantDecision d (releaseGrant grantDecision d s)

/-- R48: a blocked reopening. -/
def blockReopening (d : Doorway) (cause : ObstructionCause) (zone : Option Zone) (limit : Option Nat)
    (s : State) : State :=
  let s := recordObstruction d .opening cause zone none limit s
  let s := takeState d .paused (s.modDoor d fun r =>
    { r with holdDriven := false, pausePurpose := some .closeRetry,
             pauseTimer := some (after s.time r.profile.reopenPause) })
  relatch grantDecision d (releaseGrant grantDecision d s)

/-! ### Position readings -/

/-- R4: the reading is implausible: beyond Lstroke + 20, or a jump, unless the change check is
suspended (R170). -/
def implausible (r : Door) (v : Nat) : Bool := beyondSeat r.profile v || (!r.rescaled && jumps r.p v)

/-- R3, R39: a plausible value is taken into p, and the stall watch follows a change. -/
def takePosition (now : Time) (v : Nat) (r : Door) : Door :=
  let p := seat r.profile v
  { r with
    p := p
    rescaled := false
    stallWatch :=
      match r.stallWatch with
      | none => none
      | some w =>
        if p = w.reference then some w
        else some { reference := p, deadline := after now Config.stallTime } }

/-- R37, second case: the reading takes p from below EdgeMute to it or above while the edge is
pressed. -/
def edgeUncovered (before : Door) (after : Door) : Bool :=
  match after.attempt with
  | none => false
  | some a =>
    after.inputs.edgePressed && decide (before.p < a.edgeMute) && decide (a.edgeMute ≤ after.p)

/-- R11: the coil is switched off at the first reading with p > 3, and stays off (log 18). -/
def dropCoil (r : Door) : Door := { r with coil := r.coil && inLockWindow r.p }

/-- R13 to R20: what a reading taken into p brings about in each state. -/
def afterReading (before : Door) (d : Doorway) (s : State) : State :=
  let r := s.door d
  match r.state with
  | .opening =>
    if atOpen r.profile r.p then openReached grantDecision d s else s.modDoor d dropCoil
  | .closing =>
    if inLockWindow r.p then enterLocking grantDecision d s
    else if edgeUncovered before r then obstruct grantDecision d .edge none none none s
    else s
  | .reopening =>
    if ((r.attempt.bind fun a => a.target).getD r.profile.lstroke) ≤ r.p then
      reopenReached grantDecision d s
    else s
  | .opened =>
    relatch grantDecision d (s.modDoor d fun r => { r with openShort := !atOpen r.profile r.p })
  | .stopped | .paused => relatch grantDecision d s
  | .locked | .unlocking | .locking | .obstructedOpen | .halted | .emergency | .isolated | .fault => s

/-- R3, R4: a position reading. -/
def readPosition (d : Doorway) (count : Nat) (s : State) : State :=
  let s := s.modDoor d fun r => { r with inputs := { r.inputs with sensorCount := count } }
  let r := s.door d
  let v := convert count r.profile.countsPerMm
  if implausible r v then
    let s := s.modDoor d fun r => { r with rescaled := false }
    if r.state.outOfControl then s else enterFault d .positionImplausible s
  else afterReading r d (s.modDoor d (takePosition s.time v))

/-! ### Current samples -/

/-- R36: a judged closing sample updates the segment of its position. -/
def markSegment (seg force : Nat) (r : Door) : Door :=
  { r with peaks := r.peaks.set seg (max (r.peaks.getD seg 0) force), marks := r.marks.set seg true }

/-- R34, R35: a closing sample is judged. -/
def judgeClosing (d : Doorway) (a : Attempt) (force : Nat) (s : State) : State :=
  let r := s.door d
  let seg := segmentOf r.profile r.p
  let zone := zoneOf r.profile r.p
  let limit := absoluteLimit a zone
  let threshold := r.envelope.getD seg 0 + marginOf a zone
  let s := s.modDoor d (markSegment seg force)
  if limit < force then obstruct grantDecision d .forceAbsolute (some zone) none (some limit) s
  else if threshold < force then
    let s := s.modDoor d fun r => { r with excess := r.excess + 1 }
    if r.excess + 1 = a.kSamples then
      obstruct grantDecision d .forceMargin (some zone) (some threshold) none s
    else s
  else s.modDoor d fun r => { r with excess := 0 }

/-- R31: a current sample: discarded while the drive is off, else turned into a force and judged. One that
arrives at the moment at which the drive was switched off belongs to the motion stopped and is discarded,
also where the event that stopped it has begun another (R42, R46, log 39). -/
def takeSample (d : Doorway) (current : Int) (s : State) : State :=
  let r := s.door d
  match r.attempt with
  | none => s
  | some a =>
    let force := forceOf (clampCurrent current) a.ioff a.gain
    let zone := zoneOf r.profile r.p
    let limit := absoluteLimit a zone
    let judged := s.modDoor d fun r => { r with lastForce := some force }
    if r.driveOff = some s.time then s
    else match r.state with
    | .closing => judgeClosing d a force judged
    | .opening =>
      if limit < force then blockOpening d .forceAbsolute (some zone) (some limit) judged else judged
    | .reopening =>
      if limit < force then blockReopening d .forceAbsolute (some zone) (some limit) judged else judged
    | _ => s

/-! ### The edge and the lock switch -/

/-- R37, R38: the edge input changes. -/
def changeEdge (d : Doorway) (pressed : Bool) (s : State) : State :=
  let r := s.door d
  if r.inputs.edgePressed = pressed then s
  else
    let s := s.modDoor d fun r => { r with inputs := { r.inputs with edgePressed := pressed } }
    match r.state, r.attempt with
    | .closing, some a =>
      if pressed = true ∧ a.edgeMute ≤ r.p then obstruct grantDecision d .edge none none none s else s
    | _, _ => s

/-- R11: in UNLOCKING the lock switch reads unlocked. -/
def unlockSucceeds (d : Doorway) (s : State) : State :=
  takeState d .opening (s.modDoor d fun r => { r with unlockTimer := none, unlockFailures := 0 })

/-- R12: the UNLOCKING is the second try of an unlock whose first timed out at this moment. A CLOSE or a
zero-speed close ends the tries, since it sets the unlock failures to 0 (R25, R26). -/
def retriedNow (now : Time) (r : Door) : Bool :=
  decide (r.unlockMissedAt = some now ∧ r.unlockFailures ≠ 0)

/-- R11, R12: the lock switch reads unlocked in UNLOCKING. A reading of the moment at which the unlock timer
expired is a lost lock, also where the OPEN of the expiry has been granted already (log 42). -/
def unlockedWhileUnlocking (d : Doorway) (s : State) : State :=
  if retriedNow s.time (s.door d) then enterFault d .lockLost s else unlockSucceeds d s

/-- R18, R19, R45: the lock switch reads locked in REOPENING. A reading of the moment of the obstruction, with
the leaf in the lock window, finds the doorway STOPPED, and it relatches, also where the reversal has been
granted already (log 41); any later one has no effect. -/
def lockedWhileReopening (d : Doorway) (s : State) : State :=
  let r := s.door d
  if r.obstructedAt = some s.time ∧ inLockWindow r.p = true then stopMotion grantDecision d s else s

/-- R11, R16, R18, R19, R45, R130: the lock switch reading changes. -/
def changeLock (d : Doorway) (locked : Bool) (s : State) : State :=
  let r := s.door d
  if r.inputs.lockLocked = locked then s
  else
    let s := s.modDoor d fun r => { r with inputs := { r.inputs with lockLocked := locked } }
    match r.state with
    | .locked => if locked then s else enterFault d .lockLost s
    | .unlocking => if locked then s else unlockedWhileUnlocking d s
    | .locking => if locked then lockMade grantDecision d s else s
    | .opened | .stopped | .paused => relatch grantDecision d s
    | .reopening => if locked then lockedWhileReopening d s else s
    | .isolated => recomputeProof d.side s
    | .opening | .closing | .obstructedOpen | .halted | .emergency | .fault => s

/-! ### Timers -/

/-- R12: the unlock timer expires. The retried OPEN may be granted inside the expiry (R97), so the moment of
the expiry is kept for an unlocked reading that arrives with it (log 42). -/
def unlockExpires (d : Doorway) (s : State) : State :=
  let r := s.door d
  let s := s.modDoor d fun r => { r with unlockTimer := none }
  if r.state = .unlocking then
    if r.unlockFailures = 0 then
      let s := s.modDoor d fun r =>
        { r with unlockFailures := 1, unlockMissedAt := some s.time }
      setPending grantDecision d .toOpen .ordinary none
        (releaseGrant grantDecision d (takeState d .locked s))
    else enterFault d .unlockFailed s
  else s

/-- R41: the lock timer expires. -/
def lockExpires (d : Doorway) (s : State) : State :=
  let r := s.door d
  let s := s.modDoor d fun r => { r with lockTimer := none }
  if r.state = .locking then obstruct grantDecision d .lockNotMade none none none s else s

/-- R40: the close deadline expires. -/
def closeExpires (d : Doorway) (s : State) : State :=
  let r := s.door d
  let s := s.modDoor d fun r => { r with closeDeadline := none }
  if r.state = .closing ∨ r.state = .locking then obstruct grantDecision d .slow none none none s else s

/-- R39: the stall watch expires. -/
def stallExpires (d : Doorway) (s : State) : State :=
  let r := s.door d
  let s := s.modDoor d fun r => { r with stallWatch := none }
  match r.state with
  | .closing => obstruct grantDecision d .stall none none none s
  | .opening => blockOpening d .stall none none s
  | .reopening => blockReopening d .stall none none s
  | _ => s

/-- R21: the pause timer expires and the retry is set. -/
def pauseExpires (d : Doorway) (s : State) : State :=
  let r := s.door d
  let s := s.modDoor d fun r => { r with pauseTimer := none }
  match r.state, r.pausePurpose with
  | .paused, some .openRetry => setPending grantDecision d .toOpen .ordinary none s
  | .paused, some .closeRetry =>
    if r.k ≤ r.profile.kmax then setPending grantDecision d .toClose .ordinary none s
    else setPending grantDecision d .fullReopen .urgent (some r.profile.lstroke) s
  | _, _ => s

/-- R84: the hold deadline expires. -/
def holdExpires (d : Doorway) (s : State) : State :=
  let r := s.door d
  let s := s.modDoor d fun r => { r with holdDeadline := none }
  if (r.pendingMotion.map fun m => m.stand) = some .deferred then
    postPending grantDecision d
      (s.modDoor d fun r => { r with platform := { r.platform with overridden := true } })
  else s

/-- R100: the entry of a doorway in its queue. -/
def queuedEntry (s : State) (d : Doorway) : Option Entry :=
  (s.arbiter.urgent ++ s.arbiter.ordinary).find? fun e => e.door = d

/-- R100: mark the doorway's entry as reported late. -/
def markLate (d : Doorway) (q : List Entry) : List Entry :=
  q.map fun e => if e.door = d then { e with lateReported := true } else e

/-- R100: the late deadline of a doorway's entry expires. -/
def lateExpires (d : Doorway) (s : State) : State :=
  raiseGrantLate d
    (s.modArbiter fun a => { a with urgent := markLate d a.urgent, ordinary := markLate d a.ordinary })

/-! ### Supply -/

/-- R23: the resume motion of a halted motion. -/
def resumeMotion (r : Door) : PendingMotion :=
  match r.state with
  | .opening => { kind := .toOpen, cls := .ordinary, stand := .unposted, target := none }
  | .closing =>
    { kind := .toClose,
      cls := if (r.grant.map fun g => g.cls) = some .urgent then .urgent else .ordinary,
      stand := .unposted, target := none }
  | _ =>
    { kind :=
        if (r.attempt.map fun a => a.motion) = some .fullReopen then .fullReopen else .reopen,
      cls := .ordinary, stand := .unposted, target := r.attempt.bind fun a => a.target }

/-- R106: a motion that waits in the arbiter stands UNPOSTED after the loss. -/
def unpost (m : PendingMotion) : PendingMotion :=
  match m.stand with
  | .queued | .waitListed => { m with stand := .unposted }
  | .withheld | .deferred | .unposted => m

/-- R105 step 2, R106: a doorway at the loss of supply. A motion granted before the loss is halted by it, the
reversal of an obstruction too (R108, log 41). The excess counter returns to 0 where the loss stops a closing
(R30, log 15). -/
def haltAtLoss (d : Doorway) (s : State) : State :=
  let r := s.door d
  let s := s.modDoor d fun r => { r with grant := none, pendingMotion := r.pendingMotion.map unpost }
  match r.state with
  | .unlocking =>
    takeState d .locked (s.modDoor d fun r =>
      { r with unlockTimer := none,
               pendingMotion :=
                 some { kind := .toOpen, cls := .ordinary, stand := .unposted, target := none } })
  | .opening | .closing | .reopening =>
    takeState d .halted (s.modDoor d fun r' =>
      { r' with closeDeadline := none, excess := 0, pendingMotion := some (resumeMotion r) })
  | _ => s

/-- R105, R106: the loss of supply. The doorways take it in ascending order (log 43). -/
def supplyLost (s : State) : State :=
  let s := s.modArbiter fun a =>
    activatePair
      { a with supply := .lost, heldTotal := 0, heldOrdinary := 0, urgent := [], ordinary := [],
               waiting := [] }
  forDoors Doorway.all haltAtLoss (raiseSupplyLoss s)

/-- R107: a doorway whose motion stands UNPOSTED posts it, without a decision. -/
def repost (d : Doorway) (s : State) : State :=
  if ((s.door d).pendingMotion.map fun m => m.stand) = some .unposted then postPending id d s else s

/-- R107: the restore: every doorway posts in ascending order, then one grant decision is taken. -/
def supplyRestored (s : State) : State :=
  let s := raiseSupplyRestore (s.modArbiter fun a => { a with supply := .healthy })
  grantDecision (forDoors Doorway.all repost s)

end Sys2Proof.Machine
end

