-- ==== Sys2Proof/Machine/Platform.lean ====
section
/-! DEFINITION. The platform link monitor (chapter 9): frames and their checks, the lock states, delivery
to the demand book (R79), arming, triggers and LINK RESET. -/

namespace Sys2Proof.Machine

open Sys2Proof

/-- A PLATFORM STATUS frame as received (R157). -/
structure Frame where
  side : Byte
  faced : Byte
  panels : Byte
  hold : Byte
  sequence : Byte
  check : Byte
deriving DecidableEq, Repr

/-- R158: the CRC of a frame, over its command byte's data bits and bytes 1 to 5. -/
def frameCrc (f : Frame) : Byte :=
  crc [Command.code .platformStatus, f.side, f.faced, f.panels, f.hold, f.sequence]

/-- R159: a frame with a correct CRC is good when its sequence number differs from the last sequence. -/
def freshSequence (l : LinkMonitor) (n : Byte) : Bool := decide (l.lastSequence ≠ some n)

/-- Section 11.2: the panel state of a two-bit code. -/
def panelOf (code : Nat) : PanelState :=
  match code with
  | 0 => .closed
  | 1 => .opening
  | 2 => .opened
  | _ => .obstructed

/-- Section 11.3: the panel state of the n-th doorway of the frame's side, n from 0. -/
def framePanel (f : Frame) (n : Nat) : PanelState := panelOf ((f.panels >>> (2 * n)).toNat % 4)

/-- R79: the platform record of the n-th doorway of the frame's side after the frame. -/
def deliveredRecord (now : Time) (f : Frame) (n : Nat) (r : PlatformRecord) : PlatformRecord :=
  let panel := framePanel f n
  let hold := f.hold.getLsbD n || decide (panel = .obstructed)
  { faced := f.faced.getLsbD n
    panel := panel
    hold := hold
    holdSince := if hold then (if r.hold then r.holdSince else some now) else none
    overridden := hold && r.overridden }

/-- R79, R163: the records of the side's four doorways are updated. -/
def updateRecords (f : Frame) (i : Side) (s : State) : State :=
  (i.doorways.zipIdx).foldl
    (fun s (d, n) => s.modDoor d fun r => { r with platform := deliveredRecord s.time f n r.platform }) s

/-- R81: the book answers a change of a doorway's effective hold. -/
def answerHold (before : State) (d : Doorway) (s : State) : State :=
  match holdEffective before d, holdEffective s d with
  | false, true => holdRises d s
  | true, false => holdFalls d s
  | _, _ => s

/-- R163: a good frame received in LOCKED is delivered whole; the changes of effective holds are then
answered in ascending doorway order (log 24). -/
def deliverFrame (f : Frame) (i : Side) (s : State) : State :=
  forDoors i.doorways (answerHold s) (updateRecords f i s)

/-- R162: what the monitor does when the lock state leaves LOCKED: the marks are cleared, the triggers
not yet begun removed (the head is being sent, log 19), and the platform records cleared. -/
def departLocked (s : State) : State :=
  clearPlatformRecords (s.modLink fun l =>
    { l with armedReleased := false, armedProven := false, triggers := l.triggers.take 1 })

/-- R160, R162: the link goes to UNLOCKED from a state. -/
def unlockLink (s : State) : State :=
  let was := s.link.lock
  let s := s.modLink fun l => { l with lock := .unlocked, goodRun := 0, badRun := 0, deadline := none }
  match was with
  | .unlocked | .quiescent => s
  | .acquiring => raisePlatformLink .unlocked s
  | .locked => departLocked (raisePlatformLink .unlocked s)

/-- R160: a good frame. -/
def goodFrame (f : Frame) (i : Side) (s : State) : State :=
  let deadline := some (after s.time Config.goodFrame)
  let s := s.modLink fun l => { l with lastSequence := some f.sequence }
  match s.link.lock with
  | .unlocked =>
    raisePlatformLink .acquiring (s.modLink fun l =>
      { l with lock := .acquiring, goodRun := 1, badRun := 0, deadline := deadline })
  | .acquiring =>
    if 3 ≤ s.link.goodRun + 1 then
      raisePlatformLink .locked (s.modLink fun l =>
        { l with lock := .locked, goodRun := 3, badRun := 0, deadline := deadline })
    else
      s.modLink fun l => { l with goodRun := l.goodRun + 1, badRun := 0, deadline := deadline }
  | .locked => deliverFrame f i (s.modLink fun l => { l with badRun := 0, deadline := deadline })
  | .quiescent => s

/-- R160: a bad frame. -/
def badFrame (s : State) : State :=
  match s.link.lock with
  | .unlocked => s.modLink fun l => { l with goodRun := 0, badRun := 0 }
  | .acquiring => unlockLink s
  | .locked =>
    if 4 ≤ s.link.badRun + 1 then unlockLink s
    else s.modLink fun l => { l with badRun := l.badRun + 1, goodRun := 0 }
  | .quiescent => s

/-- R157 to R160, R167: a complete PLATFORM STATUS is one frame; in QUIESCENT it is discarded
unchecked. -/
def takeFrame (f : Frame) (s : State) : State :=
  if s.link.lock = .quiescent then s
  else if f.check = frameCrc f then
    withClamp .platform 0 1 f.side.toNat
      (fun side s => if freshSequence s.link f.sequence then goodFrame f (sideOf side) s else badFrame s) s
  else badFrame s

/-- R160: the good-frame deadline expires. -/
def goodFrameExpires (s : State) : State :=
  unlockLink (s.modLink fun l => { l with deadline := none })

/-- R164: ARM TRIGGERS, in LOCKED with a correct CRC; otherwise refused. -/
def armTriggersActs (mask check : Byte) (s : State) : State :=
  if s.link.lock = .locked ∧ check = crc [Command.code .armTriggers, mask] then
    s.modLink fun l =>
      { l with armedReleased := mask.getLsbD 0, armedProven := mask.getLsbD 1 }
  else countRefused .platform (Command.code .armTriggers) s

/-- R166: LINK RESET: the lock state becomes UNLOCKED, the marks and the triggers not yet begun are
cleared, and so are the platform records. In QUIESCENT it does nothing more than end the context. -/
def linkResetActs (s : State) : State :=
  if s.link.lock = .quiescent then s else departLocked (unlockLink s)

end Sys2Proof.Machine
end

