-- ==== Sys2Proof/Machine/Settings.lean ====
section
/-! DEFINITION. Settings, profiles and the store (chapter 10, R102, R145, R146): the fields of the
setting commands, the snapshot and the nonvolatile copy. -/

namespace Sys2Proof.Machine

open Sys2Proof

/-! ### Profile fields, numbered 1 to 25 as in section 11.5 -/

/-- A field of a profile. -/
def profileField (r : Profile) : Nat → Nat
  | 1 => r.lstroke | 2 => r.pz | 3 => r.countsPerMm | 4 => r.vopen | 5 => r.vclose | 6 => r.vplug
  | 7 => r.vfloor | 8 => r.elim | 9 => r.mass | 10 => r.ioff | 11 => r.gain | 12 => r.mrun
  | 13 => r.mplug | 14 => r.fabsRun | 15 => r.fabsPlug | 16 => r.kSamples | 17 => r.edgeMute
  | 18 => r.dro | 19 => r.reopenPause | 20 => r.kmax | 21 => r.unlockTime | 22 => r.lockTime
  | 23 => r.tclose | 24 => r.rinit | 25 => if r.learnEnable then 1 else 0
  | _ => 0

/-- R169, R146: a value brought into the range of a field and then under the bound that another field
of the same profile sets. -/
def clampField (r : Profile) (i v : Nat) : Nat :=
  match i with
  | 1 => clampTo 400 900 v
  | 2 => min (clampTo 20 120 v) (r.lstroke / 2)
  | 3 => clampTo 1 64 v
  | 4 => clampTo 80 1000 v
  | 5 => clampTo 80 1000 v
  | 6 => clampTo 40 300 v
  | 7 => min (clampTo 50 300 v) r.vclose
  | 8 => clampTo 1000 20000 v
  | 9 => clampTo 20 200 v
  | 10 => clampTo 0 4095 v
  | 11 => clampTo 1 255 v
  | 12 => clampTo 10 400 v
  | 13 => clampTo 10 400 v
  | 14 => clampTo 100 600 v
  | 15 => clampTo 100 800 v
  | 16 => clampTo 1 15 v
  | 17 => min v r.pz
  | 18 => min (max 50 v) r.lstroke
  | 19 => clampTo 200 5000 v
  | 20 => clampTo 0 7 v
  | 21 => clampTo 100 2000 v
  | 22 => clampTo 100 2000 v
  | 23 => clampTo 2000 15000 v
  | 24 => clampTo 0 1023 v
  | _ => clampTo 0 1 v

/-- R145, R146: a field takes a value; a field it bounds is brought down to the bound. -/
def setField (r : Profile) (i v : Nat) : Profile :=
  match i with
  | 1 =>
    let pz := min r.pz (v / 2)
    { r with lstroke := v, pz := pz, edgeMute := min r.edgeMute pz, dro := min r.dro v }
  | 2 => { r with pz := v, edgeMute := min r.edgeMute v }
  | 3 => { r with countsPerMm := v }
  | 4 => { r with vopen := v }
  | 5 => { r with vclose := v, vfloor := min r.vfloor v }
  | 6 => { r with vplug := v }
  | 7 => { r with vfloor := v }
  | 8 => { r with elim := v }
  | 9 => { r with mass := v }
  | 10 => { r with ioff := v }
  | 11 => { r with gain := v }
  | 12 => { r with mrun := v }
  | 13 => { r with mplug := v }
  | 14 => { r with fabsRun := v }
  | 15 => { r with fabsPlug := v }
  | 16 => { r with kSamples := v }
  | 17 => { r with edgeMute := v }
  | 18 => { r with dro := v }
  | 19 => { r with reopenPause := v }
  | 20 => { r with kmax := v }
  | 21 => { r with unlockTime := v }
  | 22 => { r with lockTime := v }
  | 23 => { r with tclose := v }
  | 24 => { r with rinit := v }
  | 25 => { r with learnEnable := decide (v ≠ 0) }
  | _ => r

/-- R145: the geometry fields Lstroke, Pz and CountsPerMm. -/
def geometryField (i : Nat) : Bool := decide (i = 1 ∨ i = 2 ∨ i = 3)

/-- R63, R64: the references of a doorway at its Rinit as it stands. -/
def resetRefs (r : Door) : List Nat := List.replicate Config.segments r.profile.rinit

/-- R28, R64, R145, R170: the record of a doorway after an accepted value of a profile field: the
references are reset at a change of Lstroke or Pz, the change check is suspended at a change of
CountsPerMm, and a lower kinetic cap acts on the motion under way. -/
def withField (i v : Nat) (r : Door) : Door :=
  let changed := decide (v ≠ profileField r.profile i)
  let profile := setField r.profile i v
  { r with
    profile := profile
    refs := if (i = 1 ∨ i = 2) ∧ changed = true then resetRefs r else r.refs
    rescaled := r.rescaled || (decide (i = 3) && changed)
    motionCap := if i = 8 ∨ i = 9 then min r.motionCap (kineticCap profile) else r.motionCap }

/-- R145: a profile field applied to one doorway by its own state and its own other fields. -/
def applyFieldAt (q : Port) (i v : Nat) (d : Doorway) (s : State) : State :=
  let r := s.door d
  if geometryField i = true ∧ r.state ≠ .locked then countRefused q (Command.code .writeProfile) s
  else
    let v' := clampField r.profile i v
    let s := if v' = v then s else countClamped q s
    s.modDoor d (withField i v')

/-- R145: a profile field applied to every selected doorway in ascending order. -/
def applyProfileField (q : Port) (mask : Byte) (i v : Nat) (s : State) : State :=
  forDoors (selected mask) (applyFieldAt q i v) s

/-! ### Car settings, numbered 1 to 9 as in section 11.5 -/

/-- R102, R103: the arbiter takes a new pending pair, the settings take it at once, and the pair is
examined for activation. -/
def writePair (pr : AllowancePair) (s : State) : State :=
  let s := { s with settings := { s.settings with allowance := pr.allowance, reserve := pr.reserve } }
  let s := s.modArbiter fun a => activatePair { a with pair := some pr }
  if s.arbiter.pair = none then grantDecision s else s

/-- R102: the allowance field. -/
def applyAllowance (q : Port) (v : Nat) (s : State) : State :=
  withClamp q 20 600 v (fun v s => writePair (withAllowance s.arbiter v) s) s

/-- R102: the reserve field. -/
def applyReserve (q : Port) (v : Nat) (s : State) : State :=
  withClamp q 0 (reserveBound s.arbiter) v
    (fun v s => writePair { allowance := reserveBound s.arbiter, reserve := v } s) s

/-- R168: SilentCloseDelay, with the gap between 0 and 10. -/
def clampSilentDelay (v : Nat) : Nat := if v = 0 then 0 else clampTo 10 300 v

/-- R168: a car setting applied. -/
def applyCarSetting (q : Port) (i v : Nat) (s : State) : State :=
  let write := fun (lo hi : Nat) (f : Nat → CarSettings → CarSettings) =>
    withClamp q lo hi v (fun v s => { s with settings := f v s.settings }) s
  match i with
  | 1 => applyAllowance q v s
  | 2 => applyReserve q v s
  | 3 => write 5 200 fun v c => { c with aopen := v }
  | 4 => write 5 200 fun v c => { c with aclose := v }
  | 5 => write 5 200 fun v c => { c with areopen := v }
  | 6 => write 500 10000 fun v c => { c with grantLate := v }
  | 7 => write 0 30000 fun v c => { c with holdLimit := v }
  | 8 => write 200 5000 fun v c => { c with carSilence := v }
  | 9 =>
    let s := if clampSilentDelay v = v then s else countClamped q s
    { s with settings := { s.settings with silentCloseDelay := clampSilentDelay v } }
  | _ => s

/-! ### The store -/

/-- The fields 1 to 25 of a profile as two-byte words. -/
def profileWords (r : Profile) : List (BitVec 16) :=
  (List.range 25).map fun i => BitVec.ofNat 16 (profileField r (i + 1))

/-- The nine car settings as two-byte words. -/
def settingsWords (c : CarSettings) : List (BitVec 16) :=
  [c.allowance, c.reserve, c.aopen, c.aclose, c.areopen, c.grantLate, c.holdLimit, c.carSilence,
   c.silentCloseDelay].map (BitVec.ofNat 16)

/-- R171: the snapshot: settings, profiles D1 to D8, references D1 to D8 (layout: log 21). -/
def snapshot (s : State) : List (BitVec 16) :=
  settingsWords s.settings ++
    Doorway.all.flatMap (fun d => profileWords (s.door d).profile) ++
    Doorway.all.flatMap (fun d => (s.door d).refs.map (BitVec.ofNat 16))

/-- R172: the sum of every byte of the snapshot modulo 65536, with each bit inverted. -/
def checkWord (words : List (BitVec 16)) : BitVec 16 :=
  ~~~(words.foldl
    (fun sum w => sum + BitVec.ofNat 16 (w.toNat / 256) + BitVec.ofNat 16 (w.toNat % 256)) 0)

/-- R172: the copy is valid. -/
def copyValid (c : StoreCopy) : Bool := !c.cutOff && decide (c.check = checkWord c.words)

/-- The n-th word of a copy. -/
def copyWord (c : StoreCopy) (n : Nat) : Nat := (c.words.getD n 0).toNat

/-- R172: the car settings of a valid copy, each passed through its range and bound. -/
def loadSettings (c : StoreCopy) : CarSettings :=
  let allowance := clampTo 20 600 (copyWord c 0)
  { allowance := allowance
    reserve := min (copyWord c 1) allowance
    aopen := clampTo 5 200 (copyWord c 2)
    aclose := clampTo 5 200 (copyWord c 3)
    areopen := clampTo 5 200 (copyWord c 4)
    grantLate := clampTo 500 10000 (copyWord c 5)
    holdLimit := clampTo 0 30000 (copyWord c 6)
    carSilence := clampTo 200 5000 (copyWord c 7)
    silentCloseDelay := clampSilentDelay (copyWord c 8) }

/-- R172: a field as if it had been written. -/
def loadField (r : Profile) (i v : Nat) : Profile := setField r i (clampField r i v)

/-- R172: the profile of a doorway of a valid copy, its fields in the order of WRITE PROFILE. -/
def loadProfile (c : StoreCopy) (d : Doorway) : Profile :=
  (List.range 25).foldl
    (fun r i => loadField r (i + 1) (copyWord c (9 + 25 * (d.number - 1) + i))) Profile.default

/-- R172: the references of a doorway of a valid copy. -/
def loadRefs (c : StoreCopy) (d : Doorway) : List Nat :=
  (List.range Config.segments).map fun i =>
    min 1023 (copyWord c (209 + Config.segments * (d.number - 1) + i))

/-- R172: the load at power-on. -/
def loadStore (s : State) : State :=
  let c := s.store.copy
  if copyValid c then
    forDoors Doorway.all
      (fun d s => s.modDoor d fun r => { r with profile := loadProfile c d, refs := loadRefs c d })
      { s with settings := loadSettings c }
  else
    raiseStoreInvalid
      (forDoors Doorway.all
        (fun d s => s.modDoor d fun r =>
          { r with profile := Profile.default,
                   refs := List.replicate Config.segments Profile.default.rinit })
        { s with settings := CarSettings.default })

/-- R171: SAVE SETTINGS, refused while the store is busy. -/
def saveActs (q : Port) (s : State) : State :=
  match s.store.busySince with
  | some _ => countRefused q (Command.code .saveSettings) s
  | none => { s with store := { s.store with busySince := some s.time, writing := snapshot s } }

/-- R171: the write is complete. -/
def saveCompletes (s : State) : State :=
  raiseSaveDone
    { s with store :=
        { busySince := none, writing := [],
          copy := { words := s.store.writing, check := checkWord s.store.writing, cutOff := false } } }

/-- R172: a write cut off by a loss of the part's power leaves the copy invalid. -/
def cutOffWrite (st : Store) : Store :=
  match st.busySince with
  | none => st
  | some _ => { busySince := none, writing := [], copy := { st.copy with cutOff := true } }

/-! ### References, cursor and history -/

/-- R63: RESET REFERENCES. -/
def resetReferencesActs (mask : Byte) (s : State) : State :=
  forDoors (selected mask)
    (fun d s => s.modDoor d fun r => { r with refs := resetRefs r, learnPermit := false }) s

/-- R53: CLEAR HISTORY. -/
def clearHistoryActs (mask : Byte) (s : State) : State :=
  forDoors (selected mask) (fun d s => s.modDoor d fun r => { r with history := [], overflow := 0 }) s

/-- R66: SET CURSOR with its parameters clamped. -/
def setCursorActs (q : Port) (door segment : Byte) (s : State) : State :=
  withClamp q 1 8 door.toNat
    (fun n s =>
      withClamp q 0 31 segment.toNat
        (fun m s => { s with cursor := { door := doorwayOf n, segment := m } }) s) s

/-- R66, R67: the place of a cursor on the ring of 256 entries. -/
def ringIndex (c : Cursor) : Nat := (c.door.number - 1) * Config.segments + c.segment

/-- R66, R67: the cursor at a place on the ring. -/
def cursorAt (n : Nat) : Cursor :=
  { door := doorwayOf ((n % 256) / Config.segments + 1), segment := n % Config.segments }

/-- R67: the entry at a place on the ring. -/
def ringEntry (s : State) (n : Nat) : Nat :=
  (s.door (cursorAt n).door).refs.getD (cursorAt n).segment 0

end Sys2Proof.Machine
end

