-- ==== Sys2Proof/Machine/Responses.lean ====
section
/-! DEFINITION. The responses of the part, byte for byte (chapter 11), and how a read is taken or refused
(R149, R154, R67). A body is the list of the parameter bytes that follow the opening byte, so the byte
that chapter 11 numbers n stands at place n - 1. -/

namespace Sys2Proof.Machine

open Sys2Proof

/-! ### Codes (section 11.2) -/

def DoorState.code : DoorState → Nat
  | .locked => 1 | .unlocking => 2 | .opening => 3 | .opened => 4 | .closing => 5 | .locking => 6
  | .stopped => 7 | .reopening => 8 | .paused => 9 | .obstructedOpen => 10 | .halted => 11
  | .emergency => 12 | .isolated => 13 | .fault => 14

def ObstructionCause.code : ObstructionCause → Nat
  | .edge => 1 | .forceMargin => 2 | .forceAbsolute => 3 | .stall => 4 | .slow => 5
  | .lockNotMade => 6

def FaultCause.code : FaultCause → Nat
  | .unlockFailed => 1 | .lockLost => 2 | .positionImplausible => 3 | .driveFault => 4

def Motion.code : Motion → Nat
  | .toOpen => 1 | .toClose => 2 | .reopen => 3 | .fullReopen => 4

def GrantClass.code : GrantClass → Nat
  | .urgent => 1 | .ordinary => 2

def Standing.code : Standing → Nat
  | .queued => 1 | .waitListed => 2 | .withheld => 3 | .deferred => 4 | .unposted => 5

def PausePurpose.code : PausePurpose → Nat
  | .closeRetry => 1 | .openRetry => 2

def CarKind.code : CarKind → Nat
  | .none => 0 | .openDemand => 1 | .closeDemand => 2 | .forcedClose => 3 | .zeroSpeedClose => 4
  | .silentClose => 5

def ServiceKind.code : ServiceKind → Nat
  | .none => 0 | .localOpen => 1 | .localClose => 2

def PanelState.code : PanelState → Nat
  | .closed => 0 | .opening => 1 | .opened => 2 | .obstructed => 3

def ReleaseMode.code : ReleaseMode → Nat
  | .none => 0 | .screened => 1 | .unscreened => 2

def sideCode : Side → Nat
  | .A => 0 | .B => 1

def Verdict.code : Verdict → Nat
  | .none => 0 | .running => 1 | .pass => 2 | .fail => 3 | .aborted => 4

def LockState.code : LockState → Nat
  | .unlocked => 0 | .acquiring => 1 | .locked => 2 | .quiescent => 3

def StartCause.code : StartCause → Nat
  | .powerOn => 1 | .restart => 2 | .wake => 3

def Direction.code : Direction → Nat
  | .closing => 1 | .opening => 2

def Zone.code : Zone → Nat
  | .run => 1 | .plug => 2

def Gate.code : Gate → Nat
  | .zeroSpeed => 1 | .release => 2 | .platform => 3

def LoopEvent.code : LoopEvent → Nat
  | .loopOpen => 1 | .loopStuck => 2

/-! ### Fields (R178, R179) -/

/-- A field of one byte. -/
def be8 (n : Nat) : List Byte := [BitVec.ofNat 8 n]

/-- A field of two bytes, most significant first. -/
def be16 (n : Nat) : List Byte := [BitVec.ofNat 8 (n / 256), BitVec.ofNat 8 n]

/-- A time base reading, most significant byte first. -/
def be32 (t : Time) : List Byte := be16 (t.toNat / 65536) ++ be16 t.toNat

/-- An enumerated field, 0 when absent (R179). -/
def enum8 {α : Type} (code : α → Nat) : Option α → List Byte
  | none => be8 0
  | some x => be8 (code x)

/-- A numeric field of two bytes, FFFFh when absent (R179). -/
def opt16 : Option Nat → List Byte
  | none => be16 65535
  | some n => be16 n

/-- A time base reading, zeros when absent (R179). -/
def opt32 : Option Time → List Byte
  | none => be32 0
  | some t => be32 t

/-- Bits of a byte, bit 0 first. -/
def bitsByte (bits : List Bool) : Byte :=
  BitVec.ofNat 8 (bits.foldr (fun b n => (if b then 1 else 0) + 2 * n) 0)

/-! ### Bodies (section 11.4) -/

/-- Bytes 20 to 51: the attempt fields, or zeros (R179, R180). -/
def attemptBytes : Option Attempt → List Byte
  | none => List.replicate 32 0
  | some a =>
    be32 a.start ++ be16 a.startPos ++ be16 a.speed ++ be16 a.plugSpeed ++ be16 a.fabsRun ++
      be16 a.fabsPlug ++ be16 a.mrun ++ be16 a.mplug ++ be8 a.kSamples ++ be16 a.edgeMute ++
      be16 a.ioff ++ be8 a.gain ++ be16 a.unlockTime ++ be16 a.lockTime ++ be16 a.tclose ++
      opt16 a.target

/-- Byte 7: the flags of the doorway record. -/
def doorwayFlags (r : Door) : Byte :=
  bitsByte
    [r.openShort, r.holdDriven, r.attempt.isSome, r.attempt.any fun a => a.beganFromOpen,
     r.closeTime.isSome, r.holdDeadline.isSome, r.platform.holdSince.isSome]

/-- Bytes 119 to 122: the sampled marks, segment 0 in bit 0 of the first byte. -/
def markBytes (marks : List Bool) : List Byte :=
  (List.range 4).map fun b => bitsByte ((List.range 8).map fun i => marks.getD (8 * b + i) false)

/-- Byte 123: the inputs as last taken. -/
def inputBits (x : DoorInputs) : Byte :=
  bitsByte [x.lockLocked, x.edgePressed, x.handleOperated, x.isolationOperated, x.overcurrent]

/-- The body of READ DOORWAY for one doorway (R150). -/
def doorwayBody (s : State) (d : Doorway) : List Byte :=
  let r := s.door d
  let m := r.pendingMotion
  let f := r.platform
  be8 d.number ++ be8 r.state.code ++ be16 r.p ++ enum8 FaultCause.code r.faultCause ++
    enum8 ObstructionCause.code r.lastCause ++ [doorwayFlags r] ++
    enum8 (fun m => m.kind.code) m ++ enum8 (fun m => m.cls.code) m ++
    enum8 (fun m => m.stand.code) m ++ opt16 (m.bind fun m => m.target) ++
    opt16 (r.grant.map fun g => g.amount) ++ enum8 (fun g => g.cls.code) r.grant ++
    be8 r.k ++ be8 r.openAttempts ++ be8 r.unlockFailures ++
    enum8 PausePurpose.code r.pausePurpose ++ attemptBytes r.attempt ++ be8 r.excess ++
    opt16 r.lastForce ++ ((List.range 32).flatMap fun i => be16 (r.peaks.getD i 0)) ++
    markBytes r.marks ++ [inputBits r.inputs] ++ be8 r.carKind.code ++ be16 r.carStamp.toNat ++
    be8 r.serviceKind.code ++ be16 r.serviceStamp.toNat ++
    [bitsByte [f.faced, f.hold, f.overridden]] ++ be8 f.panel.code ++ opt32 f.holdSince ++
    opt32 r.closeTime ++ opt32 r.holdDeadline ++ be8 (if s.serviceMode then 2 else 1)

/-- The body of READ DOORWAY (R147, R180): the highest-numbered selected doorway, or 144 zero bytes. -/
def readDoorwayBody (s : State) (mask : Byte) : List Byte :=
  match highestSelected mask with
  | none => List.replicate 144 0
  | some d => doorwayBody s d

/-- The last refused code, 00h when absent. -/
def lastRefusedByte (r : LinkPort) : Byte := r.lastRefused.getD 0

/-- The six bytes of a side record in the car summary. -/
def sideBytes (r : SideRecord) : List Byte :=
  be8 r.release.code ++ [bitsByte [r.proof, r.output]] ++ be8 r.verdict.code ++
    be8 r.mismatches ++ be8 r.step ++ be8 r.monitorEvents

/-- The body of READ CAR SUMMARY (R150). -/
def carSummaryBody (s : State) : List Byte :=
  let a := s.arbiter
  let c := s.ports.platform.counts
  [bitsByte
      [s.zeroSpeed, decide (a.supply = .healthy), s.serviceMode, s.store.busySince.isSome,
       decide (s.carSilence = .silent)]] ++
    be8 s.sides.a.release.code ++ be16 s.sides.a.releaseStamp.toNat ++
    be8 s.sides.b.release.code ++ be16 s.sides.b.releaseStamp.toNat ++
    be16 s.demandCounter.toNat ++ be16 a.active.allowance ++ be16 a.active.reserve ++
    opt16 (a.pair.map fun p => p.allowance) ++ opt16 (a.pair.map fun p => p.reserve) ++
    be16 a.heldTotal ++ be16 a.heldOrdinary ++ be8 a.urgent.length ++ be8 a.ordinary.length ++
    be8 a.waiting.length ++ sideBytes s.sides.a ++ sideBytes s.sides.b ++ be8 s.link.lock.code ++
    be8 s.lastStart.code ++ be8 c.refused ++ be8 c.truncated ++ be8 c.clamped ++ be8 c.unknown ++
    be8 c.stray ++ be8 0 ++ [lastRefusedByte s.ports.platform]

/-- An attention entry as sent: kind, subject, detail. -/
def entryBytes (kind subject detail : Nat) : List Byte := be8 kind ++ be8 subject ++ be8 detail

/-- The entries of one kind with a doorway for subject. -/
def doorwayEntries {α : Type} (kind : Nat) (v : PerDoorway α) (f : α → Option Nat) :
    List (List Byte) :=
  Doorway.all.filterMap fun d => (f (v.get d)).map fun x => entryBytes kind d.number x

/-- The entries of one kind with a side for subject. -/
def sideEntries {α : Type} (kind : Nat) (v : PerSide α) (f : α → Option Nat) : List (List Byte) :=
  [Side.A, Side.B].filterMap fun i => (f (v.get i)).map fun x => entryBytes kind (sideCode i) x

/-- An entry of a car kind, subject 0. -/
def carEntry (kind : Nat) (x : Option Nat) : List (List Byte) :=
  (x.map fun detail => entryBytes kind 0 detail).toList

/-- A pending entry without detail. -/
def plainDetail (b : Bool) : Option Nat := if b then some 0 else none

/-- Two marks in bits 0 and 1; no entry when both are clear. -/
def markDetail (b0 b1 : Bool) : Option Nat :=
  if b0 || b1 then some ((if b0 then 1 else 0) + (if b1 then 2 else 0)) else none

/-- The entries of a set in ascending kind, then ascending subject (section 11.4). -/
def attentionEntries (a : AttentionSet) : List (List Byte) :=
  doorwayEntries 1 a.state (fun x => x.map DoorState.code) ++
    doorwayEntries 2 a.obstruction plainDetail ++
    doorwayEntries 3 a.openRefused (fun x => x.map Gate.code) ++
    doorwayEntries 4 a.grantLate plainDetail ++ sideEntries 5 a.sideProof plainDetail ++
    sideEntries 6 a.loopTestDone plainDetail ++
    sideEntries 7 a.loopMonitor (fun x => x.map LoopEvent.code) ++
    carEntry 8 (a.platformLink.map LockState.code) ++
    carEntry 9 (markDetail a.supplyLoss a.supplyRestore) ++
    carEntry 10 (a.start.map StartCause.code) ++
    carEntry 11 (markDetail a.saveDone a.storeInvalid) ++ carEntry 12 (plainDetail a.command) ++
    carEntry 13 (plainDetail a.carSilent)

/-- The body of READ ATTENTION on a port (R154). -/
def attentionBody (r : LinkPort) : List Byte :=
  let entries := attentionEntries r.attention
  let c := r.counts
  be8 entries.length ++ be8 c.refused ++ be8 c.truncated ++ be8 c.clamped ++ be8 c.unknown ++
    be8 c.stray ++ be8 c.void ++ [lastRefusedByte r] ++ entries.flatten

/-- One record of a history answer. -/
def historyBytes (h : HistoryRecord) : List Byte :=
  be32 h.stamp ++ be8 h.direction.code ++ be8 h.cause.code ++ be16 h.p ++ be8 h.segment ++
    be8 h.k ++ opt16 h.force ++ enum8 Zone.code h.zone ++ opt16 h.threshold ++ opt16 h.limit

/-- The body of READ HISTORY (R53, R151). -/
def historyBody (s : State) (d : Doorway) : List Byte :=
  let r := s.door d
  be8 d.number ++ be8 r.overflow ++ be8 r.history.length ++ r.history.flatMap historyBytes

/-- The body of READ PROFILE (R151). -/
def profileBody (s : State) (d : Doorway) : List Byte :=
  let r := (s.door d).profile
  be8 d.number ++ ((List.range 25).flatMap fun i => be16 (profileField r (i + 1))) ++
    be16 (kineticCap r)

/-- The body of READ REFERENCES (R67): n entries in cursor order. -/
def referencesBody (s : State) (n : Nat) : List Byte :=
  be8 s.cursor.door.number ++ be8 s.cursor.segment ++ be8 n ++
    ((List.range n).flatMap fun i => be16 (ringEntry s (ringIndex s.cursor + i)))

/-! ### Taking a read -/

/-- R149: the response queue of a port holds two responses. -/
def queueFull (s : State) (q : Port) : Bool :=
  decide (Config.responseDepth ≤ (s.port q).responses.length)

/-- R149: a response is appended at the tail of the queue. -/
def pushResponse (q : Port) (code : Byte) (body : List Byte) (s : State) : State :=
  s.modPort q fun r => { r with responses := r.responses ++ [{ code := code, body := body }] }

/-- R149: a read is refused when the queue holds two responses, with no other effect, and otherwise
taken. -/
def takeRead (q : Port) (c : Command) (take : State → State) (s : State) : State :=
  if queueFull s q then countRefused q c.code s else take s

/-- READ DOORWAY (R150). -/
def readDoorwayActs (q : Port) (mask : Byte) (s : State) : State :=
  takeRead q .readDoorway
    (fun s => pushResponse q (Command.code .readDoorway) (readDoorwayBody s mask) s) s

/-- READ CAR SUMMARY (R150). -/
def readCarSummaryActs (q : Port) (s : State) : State :=
  takeRead q .readCarSummary
    (fun s => pushResponse q (Command.code .readCarSummary) (carSummaryBody s) s) s

/-- READ ATTENTION (R154): the response is built, then the set emptied, the counts 0 and last refused
absent. -/
def readAttentionActs (q : Port) (s : State) : State :=
  takeRead q .readAttention
    (fun s =>
      (pushResponse q (Command.code .readAttention) (attentionBody (s.port q)) s).modPort q fun r =>
        { r with attention := .empty, counts := .zero, lastRefused := none }) s

/-- READ HISTORY (R53, R151); the number is clamped when the read is taken (log 34). -/
def readHistoryActs (q : Port) (door : Byte) (s : State) : State :=
  takeRead q .readHistory
    (fun s => withClamp q 1 8 door.toNat
      (fun n s => pushResponse q (Command.code .readHistory) (historyBody s (doorwayOf n)) s) s) s

/-- READ PROFILE (R151). -/
def readProfileActs (q : Port) (door : Byte) (s : State) : State :=
  takeRead q .readProfile
    (fun s => withClamp q 1 8 door.toNat
      (fun n s => pushResponse q (Command.code .readProfile) (profileBody s (doorwayOf n)) s) s) s

/-- READ REFERENCES (R67): the cursor ends at the nth successor of its place. -/
def readReferencesActs (q : Port) (count : Byte) (s : State) : State :=
  takeRead q .readReferences
    (fun s => withClamp q 1 32 count.toNat
      (fun n s =>
        { pushResponse q (Command.code .readReferences) (referencesBody s n) s with
          cursor := cursorAt (ringIndex s.cursor + n) }) s) s

end Sys2Proof.Machine
end

