-- ==== Sys2Proof/Machine/Start.lean ====
section
/-! DEFINITION. Start-up and stand-down (chapter 10): POWER_ON, RESTART, STAND DOWN, wake, and the loss of
the part's own power. -/

namespace Sys2Proof.Machine

open Sys2Proof

/-! ### The start event -/

/-- R173 step 4: the state selected from the inputs. -/
def selectState (x : DoorInputs) (p : Nat) : DoorState :=
  if x.handleOperated then .emergency
  else if x.isolationOperated then .isolated
  else if x.lockLocked = true ∧ inLockWindow p = true then .locked
  else .opened

/-- R173 step 4, R137: the cause with which a doorway enters FAULT at a start, if it does. -/
def startFault (x : DoorInputs) (selected : DoorState) (implausible : Bool) : Option FaultCause :=
  if selected.outOfControl then none
  else if implausible then some .positionImplausible
  else if x.overcurrent then some .driveFault
  else none

/-- R2, R3, R173 step 4: the record of a doorway at a start. `r` is the record with what the start
keeps; `fallback` is the value p takes when the first reading is implausible. -/
def startRecord (x : DoorInputs) (fallback : Nat) (r : Door) : Door :=
  let v := convert x.sensorCount r.profile.countsPerMm
  let implausible := beyondSeat r.profile v
  let p := if implausible then fallback else seat r.profile v
  let selected := selectState x p
  let cause := startFault x selected implausible
  let st := if cause.isSome then DoorState.fault else selected
  { r with
    inputs := x, state := st, p := p, faultCause := cause,
    openShort := decide (st = .opened) && !atOpen r.profile p }

/-- R2, R30, R57, R69: a record with power-on values beside the profile and the references. -/
def freshRecord (r : Door) : Door :=
  { Door.afterPowerOn with
    profile := r.profile, refs := r.refs,
    envelope := List.replicate Config.segments r.profile.rinit }

/-- R2, R174: the record that RESTART starts from: the histories, the overflow counts and the last
obstruction causes are kept. -/
def restartRecord (r : Door) : Door :=
  { freshRecord r with history := r.history, overflow := r.overflow, lastCause := r.lastCause }

/-- R92: the arbiter at a start. -/
def startArbiter (c : CarSettings) (healthy : Bool) : Arbiter :=
  { active := { allowance := c.allowance, reserve := min c.reserve c.allowance }, pair := none,
    heldTotal := 0, heldOrdinary := 0, urgent := [], ordinary := [], waiting := [],
    supply := if healthy then .healthy else .lost }

/-- R156: the platform link monitor at a start; the trigger being sent is finished (log 19). -/
def startLink (sending : List Trigger) : LinkMonitor :=
  { lock := .unlocked, goodRun := 0, badRun := 0, deadline := none, lastSequence := none,
    armedReleased := false, armedProven := false, triggers := sending }

/-- R139: a port at a start; the response being sent is finished (log 19). -/
def startPort (sending : List Response) (attention : AttentionSet) : LinkPort :=
  { context := .idle, counts := .zero, lastRefused := none, responses := sending,
    attention := attention }

/-- R173 step 6, R110: a side's proof, its output and its watch as a start leaves them, in silence. -/
def startSide (i : Side) (s : State) : State :=
  let v := proofHolds s i
  startWatch i (s.modSide i fun r => { r with proof := v, output := v })

/-- R173 step 4: the STATE attention of a doorway that entered FAULT at the start; a doorway selected
EMERGENCY or ISOLATED raises none (log 22). -/
def announceFault (d : Doorway) (s : State) : State :=
  if (s.door d).state = .fault then raiseState d .fault s else s

/-- R173, R127: the zero-speed close of a doorway selected OPEN without zero speed (log 30). A doorway whose
inputs select OPEN but which enters FAULT in the same start is given none (log 44). -/
def closeAtStart (d : Doorway) (s : State) : State :=
  if s.zeroSpeed = false ∧ (s.door d).state = .opened then zeroSpeedCloseAt grantDecision d s else s

/-- R173 steps 3 to 8: what POWER_ON and RESTART share, from a state whose settings, kept records, kept
side fields, ports and triggers stand already. Several zero-speed closes are made in ascending doorway
order, with a decision after each (log 43). -/
def startEvent (cause : StartCause) (levels : InputLevels) (fallback : Door → Nat) (s : State) :
    State :=
  let s :=
    { s with
      standDown := false
      zeroSpeed := levels.zeroSpeed
      arbiter := startArbiter s.settings levels.supplyHealthy
      serviceMode := false
      demandCounter := 0
      silentDwell := none
      link := startLink s.link.triggers
      carSilence := .notSilent (after s.time s.settings.carSilence)
      cursor := { door := .D1, segment := 0 }
      lastStart := cause }
  let s := forDoors Doorway.all
    (fun d s => s.modDoor d fun r => startRecord (levels.doors.get d) (fallback r) r) s
  let s := s.modSide .A fun r =>
    { r with release := .none, releaseStamp := 0, loopClosed := levels.loopClosed.a }
  let s := s.modSide .B fun r =>
    { r with release := .none, releaseStamp := 0, loopClosed := levels.loopClosed.b }
  let s := forDoors Doorway.all announceFault s
  let s := startSide .B (startSide .A s)
  forDoors Doorway.all closeAtStart (raiseStart cause s)

/-- R110, R173: a side before the proof of a power-on is computed. -/
def blankSide : SideRecord := { SideRecord.afterPowerOn with proof := false, output := false }

/-- R172, R173: POWER_ON. A write that the loss of power cut off leaves the copy not valid. -/
def powerOnActs (levels : InputLevels) (s : State) : State :=
  let s :=
    { s with
      powered := true
      time := 0
      standDown := false
      doors := .const Door.afterPowerOn
      sides := .const blankSide
      ports :=
        { car := startPort [] .empty, platform := startPort [] .empty, service := startPort [] .empty }
      link := startLink []
      store := cutOffWrite s.store }
  let s := loadStore s
  let s := forDoors Doorway.all (fun d s => s.modDoor d freshRecord) s
  startEvent .powerOn levels (fun r => r.profile.lstroke) s

/-- The input levels as the part last took them (R126, log 11). -/
def inputsAsTaken (s : State) : InputLevels :=
  { zeroSpeed := s.zeroSpeed
    supplyHealthy := decide (s.arbiter.supply = .healthy)
    loopClosed := { a := s.sides.a.loopClosed, b := s.sides.b.loopClosed }
    doors :=
      { d1 := s.doors.d1.inputs, d2 := s.doors.d2.inputs, d3 := s.doors.d3.inputs,
        d4 := s.doors.d4.inputs, d5 := s.doors.d5.inputs, d6 := s.doors.d6.inputs,
        d7 := s.doors.d7.inputs, d8 := s.doors.d8.inputs } }

/-- R110, R121, R174: a side at RESTART: a running test is aborted in silence. -/
def restartSide (r : SideRecord) : SideRecord :=
  { r with
    verdict := if r.verdict = .running then abortVerdict r.priorVerdict else r.verdict
    priorVerdict := none
    stepDeadline := none
    watch := .inactive }

/-- R139, R156, R174: what RESTART keeps of the ports and of the trigger queue. -/
def restartPorts (s : State) : State :=
  { s with
    ports :=
      { car := startPort (s.ports.car.responses.take 1) .empty
        platform := startPort [] .empty
        service := startPort (s.ports.service.responses.take 1) .empty }
    link := startLink (s.link.triggers.take 1) }

/-- R174: RESTART. The first reading's fallback is p as it stood. Every drive is off at the restart. -/
def restartActs (s : State) : State :=
  let levels := inputsAsTaken s
  let s := restartPorts s
  let s := { s with sides := { a := restartSide s.sides.a, b := restartSide s.sides.b } }
  let s := forDoors Doorway.all
    (fun d s => s.modDoor d fun r =>
      { restartRecord r with p := r.p, driveOff := driveOffAfter s.time r .locked }) s
  startEvent .restart levels (fun r => r.p) s

/-! ### Stand-down and wake -/

/-- R175: the conditions that make a STAND DOWN void. -/
def standDownVoid (s : State) : Bool :=
  Doorway.all.any (fun d =>
      let r := s.door d
      !r.state.testable || (decide (r.state = .locked) && r.pendingMotion.isSome) ||
        r.inputs.handleOperated) ||
    attentionLine s .car

/-- R167, R175: the platform link becomes QUIESCENT, with the effects of a departure from LOCKED. -/
def quiesce (s : State) : State :=
  let was := s.link.lock
  let s := s.modLink fun l => { l with lock := .quiescent, goodRun := 0, badRun := 0, deadline := none }
  if was = .locked then departLocked s else s

/-- R123: a loop watch is stopped. -/
def stopWatch (i : Side) (s : State) : State := s.modSide i fun r => { r with watch := .inactive }

/-- R175: STAND DOWN. Side A's running test is aborted before side B's (R121, log 36). -/
def standDownActs (s : State) : State :=
  if standDownVoid s then countVoid s
  else
    let s := { s with standDown := true }
    let s := abortTest .B (abortTest .A s)
    quiesce (stopWatch .B (stopWatch .A s))

/-- R177: the part wakes. -/
def wake (s : State) : State :=
  let s := { s with standDown := false }
  let s := s.modLink fun l => { l with lock := .unlocked, goodRun := 0, badRun := 0, deadline := none }
  let s := startWatch .B (startWatch .A s)
  raiseStart .wake { s with lastStart := .wake }

/-- R176: a waking event finds the part in stand-down and wakes it first. -/
def wakeFirst (s : State) : State := if s.standDown then wake s else s

/-- R172: the part loses its power: a write under way is cut off (log 4). -/
def powerLost (s : State) : State := { s with powered := false, store := cutOffWrite s.store }

end Sys2Proof.Machine
end

