-- ==== Sys2Proof/Machine/Ports.lean ====
section
/-! DEFINITION. The link ports (chapter 8): the assembly of bytes into commands, the permissions, what a
cut-off command leaves behind, and the block each complete command is handed to. -/

namespace Sys2Proof.Machine

open Sys2Proof

/-- The n-th parameter of a command, n from 0. -/
def param (ps : List Byte) (n : Nat) : Byte := ps.getD n 0

/-! ### Complete commands -/

/-- R72: SIDE RELEASE, refused without zero speed. -/
def takeSideRelease (q : Port) (ps : List Byte) (s : State) : State :=
  withClamp q 0 1 (param ps 0).toNat
    (fun side s =>
      withClamp q 1 2 (param ps 1).toNat
        (fun mode s =>
          if s.zeroSpeed then sideReleaseActs (sideOf side) (releaseModeOf mode) s
          else countRefused q (Command.code .sideRelease) s) s) s

/-- R73: WITHDRAW RELEASE. -/
def takeWithdrawRelease (q : Port) (ps : List Byte) (s : State) : State :=
  withClamp q 0 1 (param ps 0).toNat (fun side s => recordRelease (sideOf side) .none s) s

/-- R117: LOOP TEST. -/
def takeLoopTest (q : Port) (ps : List Byte) (s : State) : State :=
  withClamp q 0 1 (param ps 0).toNat
    (fun side s =>
      if loopTestAccepted s (sideOf side) then startTest (sideOf side) s
      else countRefused q (Command.code .loopTest) s) s

/-- R78: SERVICE MODE. -/
def takeServiceMode (q : Port) (ps : List Byte) (s : State) : State :=
  withClamp q 0 1 (param ps 0).toNat
    (fun on s =>
      if on = 0 then (if s.serviceMode then endServiceMode s else s)
      else if s.serviceMode then s
      else if s.zeroSpeed then { s with serviceMode := true }
      else countRefused q (Command.code .serviceMode) s) s

/-- R75: LOCAL OPEN, refused with service mode off, whatever its mask selects (R71, R147, log 38). -/
def takeLocalOpen (q : Port) (ps : List Byte) (s : State) : State :=
  if s.serviceMode then localOpenActs (param ps 0) s
  else countRefused q (Command.code .localOpen) s

/-- R75: LOCAL CLOSE, refused with service mode off, whatever its mask selects (R71, R147, log 38). -/
def takeLocalClose (q : Port) (ps : List Byte) (s : State) : State :=
  if s.serviceMode then localCloseActs (param ps 0) s
  else countRefused q (Command.code .localClose) s

/-- R157: PLATFORM STATUS. -/
def takePlatformStatus (ps : List Byte) (s : State) : State :=
  takeFrame
    { side := param ps 0, faced := param ps 1, panels := param ps 2, hold := param ps 3,
      sequence := param ps 4, check := param ps 5 } s

/-- R140: a complete command is handed to the block that owns it. The fields of a setting command have
been applied as they arrived (R145). -/
def handCommand (q : Port) (c : Command) (ps : List Byte) (s : State) : State :=
  match c with
  | .presence => s
  | .sideRelease => takeSideRelease q ps s
  | .withdrawRelease => takeWithdrawRelease q ps s
  | .carOpen => carOpenActs (param ps 0) s
  | .carClose => carCloseActs (param ps 0) s
  | .forcedClose => forcedCloseActs (param ps 0) s
  | .loopTest => takeLoopTest q ps s
  | .standDown => standDownActs s
  | .setAllowance => s
  | .readDoorway => readDoorwayActs q (param ps 0) s
  | .readCarSummary => readCarSummaryActs q s
  | .readAttention => readAttentionActs q s
  | .readHistory => readHistoryActs q (param ps 0) s
  | .serviceMode => takeServiceMode q ps s
  | .localOpen => takeLocalOpen q ps s
  | .localClose => takeLocalClose q ps s
  | .writeProfile => s
  | .writeCarSettings => s
  | .readProfile => readProfileActs q (param ps 0) s
  | .setCursor => setCursorActs q (param ps 0) (param ps 1) s
  | .readReferences => readReferencesActs q (param ps 0) s
  | .resetReferences => resetReferencesActs (param ps 0) s
  | .clearHistory => clearHistoryActs (param ps 0) s
  | .saveSettings => saveActs q s
  | .restore => restoreActs (param ps 0) s
  | .restart => restartActs s
  | .platformStatus => takePlatformStatus ps s
  | .armTriggers => armTriggersActs (param ps 0) (param ps 1) s
  | .linkReset => linkResetActs s

/-! ### Bytes -/

/-- The receive context of a port takes a value. -/
def setContext (q : Port) (c : Context) (s : State) : State := s.modPort q fun r => { r with context := c }

/-- R145, section 11.5: a setting command hands each field as its second byte arrives. `ps` are the
parameters received up to and with that byte. -/
def applyArrived (q : Port) (c : Command) (ps : List Byte) (s : State) : State :=
  let n := ps.length
  let v := fieldValue (param ps (n - 2)) (param ps (n - 1))
  match c with
  | .setAllowance | .writeCarSettings => if n % 2 = 0 then applyCarSetting q (n / 2) v s else s
  | .writeProfile =>
    if n % 2 = 1 ∧ 3 ≤ n then applyProfileField q (param ps 0) ((n - 1) / 2) v s else s
  | _ => s

/-- R140: a parameter byte arrives on a port. -/
def receiveParameter (q : Port) (b : Byte) (s : State) : State :=
  match (s.port q).context with
  | .idle => countStray q s
  | .discarding => s
  | .collecting c ps =>
    let ps := ps ++ [b]
    let s := applyArrived q c ps (setContext q (.collecting c ps) s)
    if c.paramCount ≤ ps.length then handCommand q c ps (setContext q .idle s) else s

/-- R141, R143: the receive context of a port ends; a command in it is cut short. -/
def endContext (q : Port) (s : State) : State :=
  match (s.port q).context with
  | .collecting _ _ => countTruncated q (setContext q .idle s)
  | .idle | .discarding => setContext q .idle s

/-- R148: a command byte on the car link ends the silence and restarts its deadline. -/
def hearCar (q : Port) (s : State) : State :=
  match q with
  | .car =>
    { s with
      silentDwell := if s.carSilence = .silent then none else s.silentDwell
      carSilence := .notSilent (after s.time s.settings.carSilence) }
  | .platform | .service => s

/-- R140, R142: the code of a command byte is examined. -/
def examineCode (q : Port) (code : Byte) (s : State) : State :=
  match commandOf code with
  | none => setContext q .discarding (countUnknown q s)
  | some c =>
    if c.allowedOn q = false then setContext q .discarding (countRefused q code s)
    else if c.paramCount = 0 then handCommand q c [] (setContext q .idle s)
    else setContext q (.collecting c []) s

/-- R176: a command byte on the car link or the service link wakes the part. -/
def wakesOn : Port → Bool
  | .car | .service => true
  | .platform => false

/-- R140, R148, R176: a command byte arrives on a port. -/
def receiveCommandByte (q : Port) (code : Byte) (s : State) : State :=
  let s := if wakesOn q then wakeFirst s else s
  examineCode q code (endContext q (hearCar q s))

/-- A command arrives whole or in part: its command byte and then parameter bytes (log 5). -/
def commandArrives (q : Port) (c : Command) (ps : List Byte) (s : State) : State :=
  ps.foldl (fun s b => receiveParameter q b s) (receiveCommandByte q c.code s)

end Sys2Proof.Machine
end

