-- ==== Sys2Proof/Machine/Character.lean ====
section
/-! DEFINITION. The character of a link (R178) as eleven levels, the lines that commands, responses and
triggers lay on a link, and what a receiver makes of a line, one level a bit time. A character is a start
bit at space, eight data bits with the least significant first, the mark bit, and a stop bit at mark;
`true` is the line at mark. The bit rates are timing and stay out of the model (log 26). -/

namespace Sys2Proof.Machine

open Sys2Proof

/-- R178: the levels of the line over the eleven bit times of one character. -/
def characterBits (mark : Bool) (data : Byte) : List Bool :=
  [false, data.getLsbD 0, data.getLsbD 1, data.getLsbD 2, data.getLsbD 3, data.getLsbD 4,
   data.getLsbD 5, data.getLsbD 6, data.getLsbD 7, mark, true]

/-- What a receiver makes of the eleven bit times from a falling edge (R141, R178). -/
inductive Reception where
  | commandByte (data : Byte)
  | parameterByte (data : Byte)
  | damaged
  | broken
deriving DecidableEq, Repr

/-- R141, R178: the eleven levels from a falling edge on, the start bit the first. All at space is a break;
the stop bit at space is a damaged byte; else it is a byte, a command byte when the mark bit is 1. -/
def classifyCharacter (line : List Bool) : Reception :=
  if line.all fun b => !b then .broken
  else if line.getD 10 false = false then .damaged
  else if line.getD 9 false then .commandByte (bitsByte ((line.drop 1).take 8))
  else .parameterByte (bitsByte ((line.drop 1).take 8))

/-- What a reception does to a port. -/
def receive (q : Port) (r : Reception) (s : State) : State :=
  match r with
  | .commandByte code => receiveCommandByte q code s
  | .parameterByte b => receiveParameter q b s
  | .damaged | .broken => endContext q s

/-- R178: the characters that a receiver finds in the levels of the line, one level for a bit time. `last`
is the level before them, and `held` what is received of the character under way. A character starts at a
falling edge from mark to space; mark between characters is a pause, and space that no edge began, after a
break or a damaged byte, starts none. -/
def heard (last : Bool) (held : List Bool) : List Bool → List Reception
  | [] => []
  | level :: line =>
    if held.length = 0 then
      if last = true ∧ level = false then heard level [level] line else heard level [] line
    else if held.length < 10 then heard level (held ++ [level]) line
    else classifyCharacter (held ++ [level]) :: heard level [] line

/-- R178: what a receiver makes of a line that rests at mark before its first level. -/
def receptions (line : List Bool) : List Reception := heard true [] line

/-- R141, R178: the levels of a port's receive line act on the part, character by character. -/
def hearLine (q : Port) (line : List Bool) (s : State) : State :=
  (receptions line).foldl (fun s r => receive q r s) s

/-- R178: characters on the line, back to back. A character is its mark bit and its data. -/
def lineOf (characters : List (Bool × Byte)) : List Bool :=
  characters.flatMap fun c => characterBits c.1 c.2

/-- R149: the bytes of a response on the line: the opening byte alone carries the mark bit. -/
def responseCharacters (r : Response) : List (Bool × Byte) :=
  (true, r.code) :: r.body.map fun b => (false, b)

/-- R149, R178: the levels of the line while a response is sent. -/
def responseLine (r : Response) : List Bool := lineOf (responseCharacters r)

/-- R165: the two bytes of a trigger. -/
def triggerCharacters (t : Trigger) : List (Bool × Byte) :=
  [(true, match t.kind with | .sideReleased => 0x60#8 | .sideProven => 0x61#8),
   (false, BitVec.ofNat 8 (sideCode t.side))]

/-- R165, R178: the levels of the line while a trigger is sent. -/
def triggerLine (t : Trigger) : List Bool := lineOf (triggerCharacters t)

/-- The characters of a command: its command byte with the mark bit, then its parameter bytes. -/
def commandCharacters (c : Command) (params : List Byte) : List (Bool × Byte) :=
  (true, c.code) :: params.map fun b => (false, b)

end Sys2Proof.Machine
end

