-- ==== Sys2Proof/Machine/Events.lean ====
section
/-! DEFINITION. The meanings of the events: starts, inputs of the train and of the doorways, and expiries.
A change event whose level is the level last taken has no effect (log 12). An expiry acts only when its
timer is active and its deadline reached (log 2). -/

namespace Sys2Proof.Machine

open Sys2Proof

/-! ### Starts and power -/

/-- POWER_ON (R173). It is the one event that an unpowered part answers (log 4). -/
def execPowerOn (levels : InputLevels) (s : State) : Answer := .next (powerOnActs levels s)

/-- PART_POWER_LOSS (R172). -/
def execPartPowerLoss (s : State) : Answer := whenPowered s powerLost

/-- R171: a write that began takes more than 0 ms. -/
def writeMayEnd (s : State) : Bool :=
  match s.store.busySince with
  | none => false
  | some t => decide (0 < elapsed s.time t)

/-- SAVE_DONE (R171): the write in progress is complete; with no write in progress, or with none of its
time passed, nothing happens (log 20). -/
def execSaveDone (s : State) : Answer :=
  whenPowered s fun s => if writeMayEnd s then saveCompletes s else s

/-! ### Inputs of the train -/

/-- SUPPLY_LOSS (R105). -/
def execSupplyLoss (s : State) : Answer :=
  whenPowered s fun s => if s.arbiter.supply = .healthy then supplyLost s else s

/-- SUPPLY_RESTORE (R107). -/
def execSupplyRestore (s : State) : Answer :=
  whenPowered s fun s => if s.arbiter.supply = .lost then supplyRestored s else s

/-- ZERO_SPEED_LOSS (R87). -/
def execZeroSpeedLoss (s : State) : Answer :=
  whenPowered s fun s => if s.zeroSpeed then zeroSpeedLost s else s

/-- ZERO_SPEED_REGAIN (R88). -/
def execZeroSpeedRegain (s : State) : Answer :=
  whenPowered s fun s => if s.zeroSpeed then s else zeroSpeedRegained s

/-- R114: the loop return of a side reads a new level. -/
def changeReturn (i : Side) (closed : Bool) (s : State) : State :=
  if (s.side i).loopClosed = closed then s
  else examineSide i (s.modSide i fun r => { r with loopClosed := closed })

/-- LOOP_RETURN_CHANGE (R114). -/
def execLoopReturnChange (i : Side) (closed : Bool) (s : State) : Answer :=
  whenPowered s (changeReturn i closed)

/-! ### Inputs of a doorway -/

/-- POSITION_READING (R3, R4). -/
def execPositionReading (d : Doorway) (count : Nat) (s : State) : Answer :=
  whenPowered s (readPosition d count)

/-- CURRENT_SAMPLE (R31). -/
def execCurrentSample (d : Doorway) (current : Int) (s : State) : Answer :=
  whenPowered s (takeSample d current)

/-- R176: a lock switch of a LOCKED doorway that changes to unlocked wakes the part. -/
def lockSwitchChanges (d : Doorway) (locked : Bool) (s : State) : State :=
  let r := s.door d
  changeLock d locked
    (if locked = false ∧ r.inputs.lockLocked = true ∧ r.state = .locked then wakeFirst s else s)

/-- LOCK_SWITCH_CHANGE (R11, R16, R18, R19, R112). -/
def execLockSwitchChange (d : Doorway) (locked : Bool) (s : State) : Answer :=
  whenPowered s (lockSwitchChanges d locked)

/-- EDGE_CHANGE (R37, R38). -/
def execEdgeChange (d : Doorway) (pressed : Bool) (s : State) : Answer :=
  whenPowered s (changeEdge d pressed)

/-- R128, R176: the emergency handle is operated. -/
def handleOperated (d : Doorway) (s : State) : State :=
  if (s.door d).inputs.handleOperated then s
  else
    leaveControl d .emergency none
      ((wakeFirst s).modDoor d fun r => { r with inputs := { r.inputs with handleOperated := true } })

/-- EMERGENCY_HANDLE_OPERATED (R128). -/
def execEmergencyHandleOperated (d : Doorway) (s : State) : Answer :=
  whenPowered s (handleOperated d)

/-- R129: the emergency handle is restored. -/
def handleRestored (d : Doorway) (s : State) : State :=
  if (s.door d).inputs.handleOperated then
    let s := s.modDoor d fun r => { r with inputs := { r.inputs with handleOperated := false } }
    if (s.door d).state = .emergency then returnEvaluation d s else s
  else s

/-- EMERGENCY_HANDLE_RESTORED (R129). -/
def execEmergencyHandleRestored (d : Doorway) (s : State) : Answer :=
  whenPowered s (handleRestored d)

/-- R130, R176: the isolation switch is operated; a doorway in EMERGENCY stays there. -/
def isolationOperated (d : Doorway) (s : State) : State :=
  if (s.door d).inputs.isolationOperated then s
  else
    let s := (wakeFirst s).modDoor d fun r =>
      { r with inputs := { r.inputs with isolationOperated := true } }
    if (s.door d).state = .emergency then s else leaveControl d .isolated none s

/-- ISOLATION_OPERATED (R130). -/
def execIsolationOperated (d : Doorway) (s : State) : Answer :=
  whenPowered s (isolationOperated d)

/-- R131, R176: the isolation switch is restored. -/
def isolationRestored (d : Doorway) (s : State) : State :=
  if (s.door d).inputs.isolationOperated then
    let s := (wakeFirst s).modDoor d fun r =>
      { r with inputs := { r.inputs with isolationOperated := false } }
    if (s.door d).state = .isolated then returnEvaluation d s else s
  else s

/-- ISOLATION_RESTORED (R131). -/
def execIsolationRestored (d : Doorway) (s : State) : Answer :=
  whenPowered s (isolationRestored d)

/-- R125, R137: the overcurrent input rises. -/
def overcurrentRises (d : Doorway) (s : State) : State :=
  if (s.door d).inputs.overcurrent then s
  else
    let s := s.modDoor d fun r => { r with inputs := { r.inputs with overcurrent := true } }
    if (s.door d).state.outOfControl then s else enterFault d .driveFault s

/-- DRIVE_OVERCURRENT (R137). -/
def execDriveOvercurrent (d : Doorway) (s : State) : Answer := whenPowered s (overcurrentRises d)

/-- R125, R137: the overcurrent input falls; it is followed without effect. -/
def overcurrentFalls (d : Doorway) (s : State) : State :=
  s.modDoor d fun r => { r with inputs := { r.inputs with overcurrent := false } }

/-- DRIVE_OVERCURRENT_CLEARED (R137). -/
def execDriveOvercurrentCleared (d : Doorway) (s : State) : Answer :=
  whenPowered s (overcurrentFalls d)

/-! ### Expiries -/

/-- UNLOCK_TIMER_EXPIRY (R12). -/
def execUnlockTimerExpiry (d : Doorway) (s : State) : Answer :=
  whenPowered s fun s => if due s.time (s.door d).unlockTimer then unlockExpires d s else s

/-- LOCK_TIMER_EXPIRY (R41). -/
def execLockTimerExpiry (d : Doorway) (s : State) : Answer :=
  whenPowered s fun s => if due s.time (s.door d).lockTimer then lockExpires d s else s

/-- CLOSE_DEADLINE_EXPIRY (R40). -/
def execCloseDeadlineExpiry (d : Doorway) (s : State) : Answer :=
  whenPowered s fun s => if due s.time (s.door d).closeDeadline then closeExpires d s else s

/-- The deadline of a stall watch. -/
def stallDeadline (r : Door) : Option Time := r.stallWatch.map fun w => w.deadline

/-- STALL_WATCH_EXPIRY (R39). -/
def execStallWatchExpiry (d : Doorway) (s : State) : Answer :=
  whenPowered s fun s => if due s.time (stallDeadline (s.door d)) then stallExpires d s else s

/-- PAUSE_TIMER_EXPIRY (R21). -/
def execPauseTimerExpiry (d : Doorway) (s : State) : Answer :=
  whenPowered s fun s => if due s.time (s.door d).pauseTimer then pauseExpires d s else s

/-- HOLD_DEADLINE_EXPIRY (R84). -/
def execHoldDeadlineExpiry (d : Doorway) (s : State) : Answer :=
  whenPowered s fun s => if due s.time (s.door d).holdDeadline then holdExpires d s else s

/-- R100: the late deadline of a doorway's queue entry, while it is not reported. -/
def lateDeadline (s : State) (d : Doorway) : Option Time :=
  (queuedEntry s d).bind fun e => if e.lateReported then none else some e.lateDeadline

/-- GRANT_LATE (R100). -/
def execGrantLate (d : Doorway) (s : State) : Answer :=
  whenPowered s fun s => if due s.time (lateDeadline s d) then lateExpires d s else s

/-- The deadline of the car link's silence. -/
def silenceDeadline : CarSilence → Option Time
  | .notSilent t => some t
  | .silent => none

/-- R148, R89: the car link becomes SILENT. -/
def becomeSilent (s : State) : State :=
  startSilentDwell (raiseCarSilent { s with carSilence := .silent })

/-- CAR_SILENCE_EXPIRY (R148). -/
def execCarSilenceExpiry (s : State) : Answer :=
  whenPowered s fun s => if due s.time (silenceDeadline s.carSilence) then becomeSilent s else s

/-- SILENT_DWELL_TIMER_EXPIRY (R90). -/
def execSilentDwellTimerExpiry (s : State) : Answer :=
  whenPowered s fun s => if due s.time s.silentDwell then silentClose s else s

/-- The deadline of an OPEN_WATCH. -/
def openWatchDeadline : LoopWatch → Option Time
  | .openWatch t => some t
  | .inactive | .stuckWatch _ | .reported => none

/-- OPEN_WATCH_EXPIRY (R115). -/
def execOpenWatchExpiry (i : Side) (s : State) : Answer :=
  whenPowered s fun s => if due s.time (openWatchDeadline (s.side i).watch) then declareLoopOpen i s else s

/-- The deadline of a STUCK_WATCH. -/
def stuckWatchDeadline : LoopWatch → Option Time
  | .stuckWatch t => some t
  | .inactive | .openWatch _ | .reported => none

/-- STUCK_WATCH_EXPIRY (R116). -/
def execStuckWatchExpiry (i : Side) (s : State) : Answer :=
  whenPowered s fun s =>
    if due s.time (stuckWatchDeadline (s.side i).watch) then declareLoopStuck i s else s

/-- TEST_STEP_EXPIRY (R119, R120). -/
def execTestStepExpiry (i : Side) (s : State) : Answer :=
  whenPowered s fun s => if due s.time (s.side i).stepDeadline then testStepEnds i s else s

/-- GOOD_FRAME_DEADLINE_EXPIRY (R160). -/
def execGoodFrameDeadlineExpiry (s : State) : Answer :=
  whenPowered s fun s => if due s.time s.link.deadline then goodFrameExpires s else s

end Sys2Proof.Machine
end

