-- ==== Sys2Proof/Machine/Commands.lean ====
section
/-! DEFINITION. The meanings of what happens on the links: bytes, breaks, ends of transmission, and the
commands of the three masters with their codes (chapters 8 and 9). -/

namespace Sys2Proof.Machine

open Sys2Proof

/-! ### The line -/

/-- R149: the last byte of the response at the head has been sent. -/
def dropResponse (q : Port) (s : State) : State :=
  s.modPort q fun r => { r with responses := r.responses.tail }

/-- RESPONSE_SENT (R149). -/
def execResponseSent (q : Port) (s : State) : Answer := whenPowered s (dropResponse q)

/-- R165: the last byte of the trigger at the head has been sent. -/
def dropTrigger (s : State) : State := s.modLink fun l => { l with triggers := l.triggers.tail }

/-- TRIGGER_SENT (R165). -/
def execTriggerSent (s : State) : Answer := whenPowered s dropTrigger

/-- UNKNOWN_COMMAND (R140): a command byte of a code that names no command. -/
def execUnknownCommand (q : Port) (code : Byte) (s : State) : Answer :=
  whenPowered s (receiveCommandByte q code)

/-- STRAY_PARAMETER_BYTE (R140): a parameter byte, whatever context it finds. -/
def execStrayParameterByte (q : Port) (b : Byte) (s : State) : Answer :=
  whenPowered s (receiveParameter q b)

/-- BREAK (R141). -/
def execLineBreak (q : Port) (s : State) : Answer := whenPowered s (endContext q)

/-- DAMAGED_BYTE (R141). -/
def execDamagedByte (q : Port) (s : State) : Answer := whenPowered s (endContext q)

/-! ### Car commands -/

/-- PRESENCE, 10h (R148). -/
def execPresence (q : Port) (s : State) : Answer := whenPowered s (commandArrives q .presence [])

/-- SIDE RELEASE, 11h (R72). -/
def execSideRelease (q : Port) (ps : List Byte) (s : State) : Answer :=
  whenPowered s (commandArrives q .sideRelease ps)

/-- WITHDRAW RELEASE, 12h (R73). -/
def execWithdrawRelease (q : Port) (ps : List Byte) (s : State) : Answer :=
  whenPowered s (commandArrives q .withdrawRelease ps)

/-- OPEN, 13h (R74). -/
def execCarOpen (q : Port) (ps : List Byte) (s : State) : Answer :=
  whenPowered s (commandArrives q .carOpen ps)

/-- CLOSE, 14h (R76). -/
def execCarClose (q : Port) (ps : List Byte) (s : State) : Answer :=
  whenPowered s (commandArrives q .carClose ps)

/-- FORCED CLOSE, 15h (R77). -/
def execForcedClose (q : Port) (ps : List Byte) (s : State) : Answer :=
  whenPowered s (commandArrives q .forcedClose ps)

/-- LOOP TEST, 16h (R117). -/
def execLoopTest (q : Port) (ps : List Byte) (s : State) : Answer :=
  whenPowered s (commandArrives q .loopTest ps)

/-- STAND DOWN, 17h (R175). -/
def execStandDown (q : Port) (s : State) : Answer := whenPowered s (commandArrives q .standDown [])

/-- SET ALLOWANCE, 18h (R102). -/
def execSetAllowance (q : Port) (ps : List Byte) (s : State) : Answer :=
  whenPowered s (commandArrives q .setAllowance ps)

/-! ### Reads of the car and service ports -/

/-- READ DOORWAY, 20h (R150). -/
def execReadDoorway (q : Port) (ps : List Byte) (s : State) : Answer :=
  whenPowered s (commandArrives q .readDoorway ps)

/-- READ CAR SUMMARY, 21h (R150). -/
def execReadCarSummary (q : Port) (s : State) : Answer :=
  whenPowered s (commandArrives q .readCarSummary [])

/-- READ ATTENTION, 22h (R154). -/
def execReadAttention (q : Port) (s : State) : Answer :=
  whenPowered s (commandArrives q .readAttention [])

/-- READ HISTORY, 23h (R151). -/
def execReadHistory (q : Port) (ps : List Byte) (s : State) : Answer :=
  whenPowered s (commandArrives q .readHistory ps)

/-! ### Service commands -/

/-- SERVICE MODE, 30h (R78). -/
def execServiceMode (q : Port) (ps : List Byte) (s : State) : Answer :=
  whenPowered s (commandArrives q .serviceMode ps)

/-- LOCAL OPEN, 31h (R75). -/
def execLocalOpen (q : Port) (ps : List Byte) (s : State) : Answer :=
  whenPowered s (commandArrives q .localOpen ps)

/-- LOCAL CLOSE, 32h (R75). -/
def execLocalClose (q : Port) (ps : List Byte) (s : State) : Answer :=
  whenPowered s (commandArrives q .localClose ps)

/-- WRITE PROFILE, 33h (R145). -/
def execWriteProfile (q : Port) (ps : List Byte) (s : State) : Answer :=
  whenPowered s (commandArrives q .writeProfile ps)

/-- WRITE CAR SETTINGS, 34h (R145, R168). -/
def execWriteCarSettings (q : Port) (ps : List Byte) (s : State) : Answer :=
  whenPowered s (commandArrives q .writeCarSettings ps)

/-- READ PROFILE, 35h (R151). -/
def execReadProfile (q : Port) (ps : List Byte) (s : State) : Answer :=
  whenPowered s (commandArrives q .readProfile ps)

/-- SET CURSOR, 36h (R66). -/
def execSetCursor (q : Port) (ps : List Byte) (s : State) : Answer :=
  whenPowered s (commandArrives q .setCursor ps)

/-- READ REFERENCES, 37h (R67). -/
def execReadReferences (q : Port) (ps : List Byte) (s : State) : Answer :=
  whenPowered s (commandArrives q .readReferences ps)

/-- RESET REFERENCES, 38h (R63). -/
def execResetReferences (q : Port) (ps : List Byte) (s : State) : Answer :=
  whenPowered s (commandArrives q .resetReferences ps)

/-- CLEAR HISTORY, 39h (R53). -/
def execClearHistory (q : Port) (ps : List Byte) (s : State) : Answer :=
  whenPowered s (commandArrives q .clearHistory ps)

/-- SAVE SETTINGS, 3Ah (R171). -/
def execSaveSettings (q : Port) (s : State) : Answer :=
  whenPowered s (commandArrives q .saveSettings [])

/-- RESTORE, 3Bh (R138). -/
def execRestore (q : Port) (ps : List Byte) (s : State) : Answer :=
  whenPowered s (commandArrives q .restore ps)

/-- RESTART, 3Ch (R174). -/
def execRestart (q : Port) (s : State) : Answer := whenPowered s (commandArrives q .restart [])

/-! ### Platform commands -/

/-- PLATFORM STATUS, 50h (R157). -/
def execPlatformStatus (q : Port) (ps : List Byte) (s : State) : Answer :=
  whenPowered s (commandArrives q .platformStatus ps)

/-- ARM TRIGGERS, 51h (R164). -/
def execArmTriggers (q : Port) (ps : List Byte) (s : State) : Answer :=
  whenPowered s (commandArrives q .armTriggers ps)

/-- LINK RESET, 5Fh (R166). -/
def execLinkReset (q : Port) (s : State) : Answer := whenPowered s (commandArrives q .linkReset [])

end Sys2Proof.Machine
end

