-- ==== Sys2Proof/Machine/Dispatch.lean ====
section
/-! DEFINITION. The dispatch of the commands and events to their meanings, one arm each. -/

namespace Sys2Proof.Machine

open Sys2Proof

def exec (i : Instr) (s : State) : Host.Outcome State Fault Refusal :=
  match i with
  | .powerOn levels => Sys2Proof.Machine.execPowerOn levels s
  | .supplyLoss => Sys2Proof.Machine.execSupplyLoss s
  | .supplyRestore => Sys2Proof.Machine.execSupplyRestore s
  | .zeroSpeedLoss => Sys2Proof.Machine.execZeroSpeedLoss s
  | .zeroSpeedRegain => Sys2Proof.Machine.execZeroSpeedRegain s
  | .positionReading d count => Sys2Proof.Machine.execPositionReading d count s
  | .currentSample d current => Sys2Proof.Machine.execCurrentSample d current s
  | .lockSwitchChange d locked => Sys2Proof.Machine.execLockSwitchChange d locked s
  | .edgeChange d pressed => Sys2Proof.Machine.execEdgeChange d pressed s
  | .emergencyHandleOperated d => Sys2Proof.Machine.execEmergencyHandleOperated d s
  | .emergencyHandleRestored d => Sys2Proof.Machine.execEmergencyHandleRestored d s
  | .isolationOperated d => Sys2Proof.Machine.execIsolationOperated d s
  | .isolationRestored d => Sys2Proof.Machine.execIsolationRestored d s
  | .driveOvercurrent d => Sys2Proof.Machine.execDriveOvercurrent d s
  | .loopReturnChange side closed => Sys2Proof.Machine.execLoopReturnChange side closed s
  | .unlockTimerExpiry d => Sys2Proof.Machine.execUnlockTimerExpiry d s
  | .lockTimerExpiry d => Sys2Proof.Machine.execLockTimerExpiry d s
  | .closeDeadlineExpiry d => Sys2Proof.Machine.execCloseDeadlineExpiry d s
  | .stallWatchExpiry d => Sys2Proof.Machine.execStallWatchExpiry d s
  | .pauseTimerExpiry d => Sys2Proof.Machine.execPauseTimerExpiry d s
  | .holdDeadlineExpiry d => Sys2Proof.Machine.execHoldDeadlineExpiry d s
  | .grantLate d => Sys2Proof.Machine.execGrantLate d s
  | .carSilenceExpiry => Sys2Proof.Machine.execCarSilenceExpiry s
  | .silentDwellTimerExpiry => Sys2Proof.Machine.execSilentDwellTimerExpiry s
  | .openWatchExpiry side => Sys2Proof.Machine.execOpenWatchExpiry side s
  | .stuckWatchExpiry side => Sys2Proof.Machine.execStuckWatchExpiry side s
  | .testStepExpiry side => Sys2Proof.Machine.execTestStepExpiry side s
  | .goodFrameDeadlineExpiry => Sys2Proof.Machine.execGoodFrameDeadlineExpiry s
  | .saveDone => Sys2Proof.Machine.execSaveDone s
  | .responseSent port => Sys2Proof.Machine.execResponseSent port s
  | .triggerSent => Sys2Proof.Machine.execTriggerSent s
  | .unknownCommand port code => Sys2Proof.Machine.execUnknownCommand port code s
  | .strayParameterByte port byte => Sys2Proof.Machine.execStrayParameterByte port byte s
  | .lineBreak port => Sys2Proof.Machine.execLineBreak port s
  | .damagedByte port => Sys2Proof.Machine.execDamagedByte port s
  | .presence port => Sys2Proof.Machine.execPresence port s
  | .sideRelease port params => Sys2Proof.Machine.execSideRelease port params s
  | .withdrawRelease port params => Sys2Proof.Machine.execWithdrawRelease port params s
  | .carOpen port params => Sys2Proof.Machine.execCarOpen port params s
  | .carClose port params => Sys2Proof.Machine.execCarClose port params s
  | .forcedClose port params => Sys2Proof.Machine.execForcedClose port params s
  | .loopTest port params => Sys2Proof.Machine.execLoopTest port params s
  | .standDown port => Sys2Proof.Machine.execStandDown port s
  | .setAllowance port params => Sys2Proof.Machine.execSetAllowance port params s
  | .readDoorway port params => Sys2Proof.Machine.execReadDoorway port params s
  | .readCarSummary port => Sys2Proof.Machine.execReadCarSummary port s
  | .readAttention port => Sys2Proof.Machine.execReadAttention port s
  | .readHistory port params => Sys2Proof.Machine.execReadHistory port params s
  | .serviceMode port params => Sys2Proof.Machine.execServiceMode port params s
  | .localOpen port params => Sys2Proof.Machine.execLocalOpen port params s
  | .localClose port params => Sys2Proof.Machine.execLocalClose port params s
  | .writeProfile port params => Sys2Proof.Machine.execWriteProfile port params s
  | .writeCarSettings port params => Sys2Proof.Machine.execWriteCarSettings port params s
  | .readProfile port params => Sys2Proof.Machine.execReadProfile port params s
  | .setCursor port params => Sys2Proof.Machine.execSetCursor port params s
  | .readReferences port params => Sys2Proof.Machine.execReadReferences port params s
  | .resetReferences port params => Sys2Proof.Machine.execResetReferences port params s
  | .clearHistory port params => Sys2Proof.Machine.execClearHistory port params s
  | .saveSettings port => Sys2Proof.Machine.execSaveSettings port s
  | .restore port params => Sys2Proof.Machine.execRestore port params s
  | .restart port => Sys2Proof.Machine.execRestart port s
  | .platformStatus port params => Sys2Proof.Machine.execPlatformStatus port params s
  | .armTriggers port params => Sys2Proof.Machine.execArmTriggers port params s
  | .linkReset port => Sys2Proof.Machine.execLinkReset port s
  | .driveOvercurrentCleared d => Sys2Proof.Machine.execDriveOvercurrentCleared d s
  | .partPowerLoss => Sys2Proof.Machine.execPartPowerLoss s

end Sys2Proof.Machine
end

