-- ==== Sys2Proof/Machine/Clock.lean ====
section
/-! DEFINITION. What the part does when no command waits: it takes a deadline that is reached, and with
none reached the time base moves on by one millisecond (log 1). -/

namespace Sys2Proof.Machine

open Sys2Proof

/-- The timers of a doorway, each with the event of its expiry. -/
def doorTimers (s : State) (d : Doorway) : List (Option Time × Instr) :=
  let r := s.door d
  [(r.unlockTimer, .unlockTimerExpiry d), (r.lockTimer, .lockTimerExpiry d),
   (r.closeDeadline, .closeDeadlineExpiry d), (stallDeadline r, .stallWatchExpiry d),
   (r.pauseTimer, .pauseTimerExpiry d), (r.holdDeadline, .holdDeadlineExpiry d),
   (lateDeadline s d, .grantLate d)]

/-- The timers of a side. -/
def sideTimers (s : State) (i : Side) : List (Option Time × Instr) :=
  let r := s.side i
  [(openWatchDeadline r.watch, .openWatchExpiry i), (stuckWatchDeadline r.watch, .stuckWatchExpiry i),
   (r.stepDeadline, .testStepExpiry i)]

/-- The timers of the car. A store write is complete at the latest 200 ms after its command (R171,
log 20). -/
def carTimers (s : State) : List (Option Time × Instr) :=
  [(silenceDeadline s.carSilence, .carSilenceExpiry), (s.silentDwell, .silentDwellTimerExpiry),
   (s.link.deadline, .goodFrameDeadlineExpiry),
   (s.store.busySince.map fun t => after t Config.saveLimit, .saveDone)]

/-- Every timer of the part. -/
def timers (s : State) : List (Option Time × Instr) :=
  Doorway.all.flatMap (doorTimers s) ++ [Side.A, Side.B].flatMap (sideTimers s) ++ carTimers s

/-- The first event whose deadline is reached. -/
def dueCommand (s : State) : Option Instr :=
  ((timers s).find? fun t => due s.time t.1).map fun t => t.2

/-- A moment is over: what a doorway keeps for the events that arrive together with one of that moment goes
(logs 39, 41 and 42). -/
def Door.momentOver (r : Door) : Door :=
  { r with driveOff := none, obstructedAt := none, unlockMissedAt := none }

/-- A millisecond passes (log 1). -/
def timePasses (s : State) : State :=
  { s with
    time := s.time + 1
    doors :=
      { d1 := s.doors.d1.momentOver, d2 := s.doors.d2.momentOver, d3 := s.doors.d3.momentOver,
        d4 := s.doors.d4.momentOver, d5 := s.doors.d5.momentOver, d6 := s.doors.d6.momentOver,
        d7 := s.doors.d7.momentOver, d8 := s.doors.d8.momentOver } }

/-- An idle part: an expiry that is due is taken, else a millisecond passes. -/
def idle (s : State) : Answer :=
  if s.powered then
    match dueCommand s with
    | some c => exec c s
    | none => .next (timePasses s)
  else .next s

end Sys2Proof.Machine
end

