-- ==== Sys2Proof/WellFormed.lean ====
section
/-! DEFINITION. Which terms of `Instr` stand for something that can arrive at the part. The meanings of
Machine/Events.lean and Machine/Commands.lean do not rest on these checks. -/

namespace Sys2Proof

open Sys2Proof.Machine

/-- The command that a row of the links carries, with its parameter bytes. -/
def Instr.linkCommand : Instr → Option (Port × Command × List Byte)
  | .presence q => some (q, .presence, [])
  | .sideRelease q ps => some (q, .sideRelease, ps)
  | .withdrawRelease q ps => some (q, .withdrawRelease, ps)
  | .carOpen q ps => some (q, .carOpen, ps)
  | .carClose q ps => some (q, .carClose, ps)
  | .forcedClose q ps => some (q, .forcedClose, ps)
  | .loopTest q ps => some (q, .loopTest, ps)
  | .standDown q => some (q, .standDown, [])
  | .setAllowance q ps => some (q, .setAllowance, ps)
  | .readDoorway q ps => some (q, .readDoorway, ps)
  | .readCarSummary q => some (q, .readCarSummary, [])
  | .readAttention q => some (q, .readAttention, [])
  | .readHistory q ps => some (q, .readHistory, ps)
  | .serviceMode q ps => some (q, .serviceMode, ps)
  | .localOpen q ps => some (q, .localOpen, ps)
  | .localClose q ps => some (q, .localClose, ps)
  | .writeProfile q ps => some (q, .writeProfile, ps)
  | .writeCarSettings q ps => some (q, .writeCarSettings, ps)
  | .readProfile q ps => some (q, .readProfile, ps)
  | .setCursor q ps => some (q, .setCursor, ps)
  | .readReferences q ps => some (q, .readReferences, ps)
  | .resetReferences q ps => some (q, .resetReferences, ps)
  | .clearHistory q ps => some (q, .clearHistory, ps)
  | .saveSettings q => some (q, .saveSettings, [])
  | .restore q ps => some (q, .restore, ps)
  | .restart q => some (q, .restart, [])
  | .platformStatus q ps => some (q, .platformStatus, ps)
  | .armTriggers q ps => some (q, .armTriggers, ps)
  | .linkReset q => some (q, .linkReset, [])
  | .powerOn _ | .supplyLoss | .supplyRestore | .zeroSpeedLoss | .zeroSpeedRegain
  | .positionReading _ _ | .currentSample _ _ | .lockSwitchChange _ _ | .edgeChange _ _
  | .emergencyHandleOperated _ | .emergencyHandleRestored _ | .isolationOperated _
  | .isolationRestored _ | .driveOvercurrent _ | .loopReturnChange _ _ | .unlockTimerExpiry _
  | .lockTimerExpiry _ | .closeDeadlineExpiry _ | .stallWatchExpiry _ | .pauseTimerExpiry _
  | .holdDeadlineExpiry _ | .grantLate _ | .carSilenceExpiry | .silentDwellTimerExpiry
  | .openWatchExpiry _ | .stuckWatchExpiry _ | .testStepExpiry _ | .goodFrameDeadlineExpiry
  | .saveDone | .responseSent _ | .triggerSent | .unknownCommand _ _ | .strayParameterByte _ _
  | .lineBreak _ | .damagedByte _ | .driveOvercurrentCleared _ | .partPowerLoss => none

/-- A command arrives with at most the parameter bytes it takes: surplus bytes are stray bytes, with a
row of their own (R140). -/
def parametersFit (i : Instr) : Bool :=
  match i.linkCommand with
  | none => true
  | some (_, c, ps) => decide (ps.length ≤ c.paramCount)

/-- The code of an UNKNOWN_COMMAND names no command (R140). -/
def codeUnknown (i : Instr) : Bool :=
  match i with
  | .unknownCommand _ code => (commandOf code).isNone
  | _ => true

/-- A response is sent on the car port or the service port: the platform port has no response queue
(R139). -/
def respondsThere (i : Instr) : Bool :=
  match i with
  | .responseSent q => decide (q ≠ .platform)
  | _ => true

/-- All the checks. -/
def Instr.wellFormed (i : Instr) : Bool := parametersFit i && codeUnknown i && respondsThere i

/-- A command that arrives with all its parameters on a port that may issue it (R140, R142). -/
def Instr.issued (i : Instr) : Bool :=
  match i.linkCommand with
  | none => false
  | some (q, c, ps) => c.allowedOn q && decide (ps.length = c.paramCount)

end Sys2Proof
end

