-- ==== Sys2Proof/Safety.lean ====
section
/-! DEFINITION. What a safe run is, in the terms the statements use: what it is for a command to complete,
and the properties of a state that every step keeps. -/

namespace Sys2Proof.Machine

open Sys2Proof

/-- A command completes with a next state of which `P` holds. -/
def Completes (a : Answer) (P : State → Prop) : Prop := ∃ t, a = .next t ∧ P t

/-- What no change of a motion, a grant or a proof touches of a doorway: its inputs, its position, its
demand records, its platform record but for the override, and its profile. -/
def Door.rest (r : Door) : Door :=
  { Door.afterPowerOn with
    inputs := r.inputs, p := r.p, rescaled := r.rescaled, carKind := r.carKind, carStamp := r.carStamp,
    serviceKind := r.serviceKind, serviceStamp := r.serviceStamp, closeTime := r.closeTime,
    platform := { r.platform with overridden := false }, profile := r.profile }

/-- What no change of a motion or a proof touches of a side. -/
def SideRecord.rest (r : SideRecord) : SideRecord :=
  { SideRecord.afterPowerOn with
    release := r.release, releaseStamp := r.releaseStamp, loopClosed := r.loopClosed }

/-- A port without its attention set. -/
def LinkPort.rest (r : LinkPort) : LinkPort := { r with attention := .empty }

/-- The frame of the sequencers: everything in the state but the motions of the doorways, the sums and
queues of the arbiter, the proof and loop records, the triggers and the attention sets. Two states with
the same `rest` agree on all of that. -/
def State.rest (s : State) : State :=
  { s with
    doors :=
      { d1 := s.doors.d1.rest, d2 := s.doors.d2.rest, d3 := s.doors.d3.rest, d4 := s.doors.d4.rest,
        d5 := s.doors.d5.rest, d6 := s.doors.d6.rest, d7 := s.doors.d7.rest, d8 := s.doors.d8.rest }
    sides := { a := s.sides.a.rest, b := s.sides.b.rest }
    arbiter := { State.reset.arbiter with supply := s.arbiter.supply }
    link := { s.link with triggers := [] }
    ports :=
      { car := s.ports.car.rest, platform := s.ports.platform.rest, service := s.ports.service.rest } }

/-- The frame of a command that acts on a link alone: the doorways, the arbiter, the settings, the store,
the demand book and the proofs are as they were. -/
def CarUntouched (s t : State) : Prop :=
  t.powered = s.powered ∧ t.time = s.time ∧ t.zeroSpeed = s.zeroSpeed ∧ t.doors = s.doors ∧
    t.arbiter = s.arbiter ∧ t.settings = s.settings ∧ t.store = s.store ∧
    t.serviceMode = s.serviceMode ∧ t.demandCounter = s.demandCounter ∧ t.pending = s.pending ∧
    ∀ i : Side,
      (t.side i).release = (s.side i).release ∧ (t.side i).releaseStamp = (s.side i).releaseStamp ∧
        (t.side i).loopClosed = (s.side i).loopClosed ∧ (t.side i).proof = (s.side i).proof ∧
        (t.side i).output = (s.side i).output ∧ (t.side i).verdict = (s.side i).verdict

/-- An entry stands in the attention sets of both the car port and the service port (R152). -/
def InBothSets (t : State) (P : AttentionSet → Prop) : Prop :=
  P t.ports.car.attention ∧ P t.ports.service.attention

/-! ### What an event leaves at a doorway -/

/-- R140, R148, R176: the state in which a command finds the part once its command byte has been heard on
a port: awake, the silence of the car link restarted, and the receive context ended. -/
def arrived (q : Port) (s : State) : State :=
  endContext q (hearCar q (if wakesOn q then wakeFirst s else s))

/-- The state with another value in the inputs of a doorway as last taken. -/
def withInput (d : Doorway) (f : DoorInputs → DoorInputs) (s : State) : State :=
  s.modDoor d fun r => { r with inputs := f r.inputs }

/-- R124: what an entry into EMERGENCY, ISOLATED or FAULT leaves of a doorway's record. `driveOff` is the
model's own field (log 39). -/
def LeftControl (s t : State) (d : Doorway) (st : DoorState) (cause : Option FaultCause) : Prop :=
  t.door d =
      { s.door d with
        inputs := (t.door d).inputs, rescaled := (t.door d).rescaled
        holdDeadline := (t.door d).holdDeadline
        state := st, faultCause := cause, grant := none, pendingMotion := none, unlockTimer := none,
        lockTimer := none, closeDeadline := none, pauseTimer := none, stallWatch := none, excess := 0,
        pausePurpose := none, openShort := false, holdDriven := false, coil := false
        driveOff := if (s.door d).state.driving then some s.time else (s.door d).driveOff } ∧
    (((s.door d).pendingMotion.map fun m => m.stand) = some .deferred →
      (t.door d).holdDeadline = none) ∧
    InBothSets t fun a => a.state.get d = some st

/-- R43, R51, R52: a record has been added at the head of a doorway's history. -/
def Recorded (s t : State) (d : Doorway) (entry : HistoryRecord) : Prop :=
  (t.door d).history = (entry :: (s.door d).history).take 8 ∧
    (t.door d).overflow =
      (if 8 ≤ (s.door d).history.length then min 255 ((s.door d).overflow + 1)
        else (s.door d).overflow) ∧
    (t.door d).lastCause = some entry.cause ∧ InBothSets t fun a => a.obstruction.get d = true

/-- R7: a motion set stands in the record as the pending motion. -/
def Waits (x : Door) (kind : Motion) (cls : GrantClass) : Prop :=
  (x.pendingMotion.map fun m => (m.kind, m.cls)) = some (kind, cls)

/-- R10: the attempt fields latched at a grant at `now` from the profile as it stands. -/
def LatchedAt (now : Time) (x : Door) (kind : Motion) (speed : Nat) (target : Option Nat) : Prop :=
  match x.attempt with
  | none => False
  | some a =>
    a.motion = kind ∧ a.start = now ∧ a.startPos = x.p ∧ a.speed = speed ∧
      a.plugSpeed = min x.profile.vplug speed ∧ a.fabsRun = x.profile.fabsRun ∧
      a.fabsPlug = x.profile.fabsPlug ∧ a.mrun = x.profile.mrun ∧ a.mplug = x.profile.mplug ∧
      a.kSamples = x.profile.kSamples ∧ a.edgeMute = x.profile.edgeMute ∧ a.ioff = x.profile.ioff ∧
      a.gain = x.profile.gain ∧ a.unlockTime = x.profile.unlockTime ∧
      a.lockTime = x.profile.lockTime ∧ a.tclose = x.profile.tclose ∧ a.target = target ∧
      (kind ≠ .toClose → a.beganFromOpen = false)

/-- R5, R28, R29: the drive runs in a direction, at the motion's speed in the run zone and at the plug
speed of a motion of that speed below Pz. -/
def DrivenAt (x : Door) (direction : Direction) (speed : Nat) : Prop :=
  driveCommand x =
    some (direction, if x.p < x.profile.pz then min x.profile.vplug speed else speed)

/-- R39: the stall watch as it starts at `now`. -/
def WatchStarted (now : Time) (x : Door) : Prop :=
  x.stallWatch = some { reference := x.p, deadline := now + 300 }

/-- R9 to R11, R13, R29, R57: an OPEN granted at `now` has begun, or has ended at once at the open
position (R108, log 35). -/
def OpeningBegan (now : Time) (x : Door) (cls : GrantClass) : Prop :=
  let speed := min x.profile.vopen (kineticCap x.profile)
  LatchedAt now x .toOpen speed none ∧ x.pendingMotion = none ∧ x.learnPermit = false ∧
    x.lastForce = none ∧
    match x.state with
    | .unlocking =>
      x.coil = true ∧ x.unlockTimer = some (after now x.profile.unlockTime) ∧
        driveCommand x = none ∧ (x.grant.map fun g => g.cls) = some cls
    | .opening =>
      x.inputs.lockLocked = false ∧ x.coil = decide (x.p ≤ 3) ∧ WatchStarted now x ∧
        DrivenAt x .opening speed ∧ (x.grant.map fun g => g.cls) = some cls
    | .opened =>
      x.profile.lstroke ≤ x.p + 5 ∧ x.grant = none ∧ x.k = 0 ∧ x.openAttempts = 0 ∧
        x.openShort = false
    | _ => False

/-- R9, R10, R17, R18, R29, R30, R37, R57, R58: a CLOSE granted at `now` has begun, in CLOSING or in
LOCKING; or it has locked at once; or a pressed edge has obstructed it at its start. -/
def ClosingBegan (now : Time) (x : Door) (cls : GrantClass) : Prop :=
  let latched :=
    LatchedAt now x .toClose (closingSpeed x.profile x.k) none ∧ x.k ≤ x.profile.kmax ∧
      x.pendingMotion = none ∧ (x.grant.map fun g => g.cls) = some cls ∧
      x.closeDeadline = some (after now x.profile.tclose) ∧ x.excess = 0 ∧
      x.peaks = List.replicate 32 0 ∧ x.marks = List.replicate 32 false ∧ x.lastForce = none ∧
      x.envelope = x.refs ∧
      x.learnPermit = ((x.attempt.any fun a => a.beganFromOpen) && x.profile.learnEnable) ∧
      ((x.attempt.any fun a => a.beganFromOpen) = true → x.profile.lstroke ≤ x.p + 5 ∧ x.k = 0)
  let pressed := x.inputs.edgePressed = true ∧ x.profile.edgeMute ≤ x.p
  match x.state with
  | .closing =>
    latched ∧ 3 < x.p ∧ ¬ pressed ∧ WatchStarted now x ∧
      DrivenAt x .closing (closingSpeed x.profile x.k)
  | .locking =>
    latched ∧ x.p ≤ 3 ∧ x.inputs.lockLocked = false ∧
      x.lockTimer = some (after now x.profile.lockTime) ∧ driveCommand x = none
  | .locked =>
    x.p ≤ 3 ∧ x.inputs.lockLocked = true ∧ x.grant = none ∧ x.k = 0 ∧ x.learnPermit = false ∧
      (x.attempt.map fun a => (a.motion, a.start)) = some (.toClose, now)
  | .stopped | .reopening | .paused | .obstructedOpen =>
    3 < x.p ∧ pressed ∧ x.lastCause = some .edge ∧
      (x.history.head?.map fun h => (h.stamp, h.direction, h.cause, h.k)) =
        some (now, .closing, .edge, x.k)
  | _ => False

/-- R9, R10, R20, R29, R57: a REOPEN or FULL_REOPEN granted at `now` has begun, or it has ended at once
where the leaf stands at its target. -/
def ReopeningBegan (now : Time) (x : Door) (kind : Motion) (cls : GrantClass) (target : Option Nat) :
    Prop :=
  let speed := min x.profile.vopen (kineticCap x.profile)
  if x.p < target.getD x.profile.lstroke then
    x.state = .reopening ∧ LatchedAt now x kind speed target ∧ x.pendingMotion = none ∧
      x.learnPermit = false ∧ x.lastForce = none ∧ WatchStarted now x ∧ DrivenAt x .opening speed ∧
      (x.grant.map fun g => g.cls) = some cls
  else if kind = .fullReopen then
    (x.state = .obstructedOpen ∧ x.grant = none ∧ x.pendingMotion = none) ∨
      (x.holdDriven = false ∧ (Waits x .toClose .ordinary ∨ ClosingBegan now x .ordinary))
  else
    x.state = .paused ∧ x.pausePurpose = some .closeRetry ∧ x.grant = none ∧
      x.pauseTimer = some (after now x.profile.reopenPause)

/-- R7, R97, R9: a motion set at a doorway waits as the pending motion, or its grant has come and the
motion has begun in this event. -/
def WaitsOrBegan (s t : State) (d : Doorway) (kind : Motion) (cls : GrantClass) (target : Option Nat) :
    Prop :=
  Waits (t.door d) kind cls ∨
    match kind with
    | .toOpen => OpeningBegan s.time (t.door d) cls
    | .toClose => ClosingBegan s.time (t.door d) cls
    | .reopen | .fullReopen => ReopeningBegan s.time (t.door d) kind cls target

/-- R19, R50, R7: what relatching leaves of a doorway that rests, or comes to rest, in OPEN, STOPPED or PAUSED.
A pending OPEN is kept as it stands. An OPEN_RETRY pause that `retries` sets and posts its OPEN: UNPOSTED with
the supply lost, cleared without zero speed, and else in the arbiter or begun. Nothing else stays pending. -/
def Relatched (s t : State) (d : Doorway) (retries : Bool) : Prop :=
  let r := s.door d
  let x := t.door d
  x.k = 0 ∧ x.openAttempts = 0 ∧ x.pauseTimer = none ∧ x.pausePurpose = none ∧ x.holdDriven = false ∧
    x.openShort = false ∧ x.refs = r.refs ∧
    if (r.pendingMotion.any fun m => decide (m.kind = .toOpen)) = true then
      (retries = true → ∀ m ∈ r.pendingMotion, m.cls = .ordinary) →
        x.state = .locked ∧ x.pendingMotion = r.pendingMotion ∧ t.arbiter = s.arbiter
    else if retries = false then x.state = .locked ∧ x.pendingMotion = none
    else
      match s.arbiter.supply with
      | .lost =>
        x.state = .locked ∧
          x.pendingMotion =
            some { kind := .toOpen, cls := .ordinary, stand := .unposted, target := none }
      | .healthy =>
        if s.zeroSpeed then
          (x.state = .locked ∧
              (x.pendingMotion.map fun m => (m.kind, m.cls)) = some (.toOpen, .ordinary) ∧
              ∀ m ∈ x.pendingMotion, m.stand = .queued ∨ m.stand = .waitListed) ∨
            (x.state = .unlocking ∧ OpeningBegan s.time x .ordinary)
        else x.state = .locked ∧ x.pendingMotion = none

/-- R43, R44, R19: what an obstruction leaves of a doorway: the record, the timers stopped, k raised and
the reversal set, waiting at a STOPPED doorway or begun in the same event, or the doorway relatched where
its lock switch reads locked in the lock window. A sample that obstructs has entered the peak and the mark
of its segment and is the last judged force (R31, R34, R36), which the record holds; with another cause
peaks, marks and last judged force stay. The grant of the reversal clears the last judged force alone. -/
def Obstructed (s t : State) (d : Doorway) (entry : HistoryRecord) : Prop :=
  let r := s.door d
  let x := t.door d
  let judged := decide (entry.cause = .forceMargin ∨ entry.cause = .forceAbsolute)
  let full := s.zeroSpeed = true ∧ r.profile.kmax < r.k + 1
  let kind := if full then Motion.fullReopen else .reopen
  let target := if full then r.profile.lstroke else min (r.p + r.profile.dro) r.profile.lstroke
  Recorded s t d entry ∧ x.closeDeadline = none ∧ x.lockTimer = none ∧ x.excess = 0 ∧
    x.holdDriven = false ∧ x.refs = r.refs ∧
    x.peaks =
      (if judged then r.peaks.set entry.segment (max (r.peaks.getD entry.segment 0) (entry.force.getD 0))
      else r.peaks) ∧
    x.marks = (if judged then r.marks.set entry.segment true else r.marks) ∧
    x.lastForce = (if x.state = .stopped ∨ x.state = .locked then entry.force else none) ∧
    if r.p ≤ 3 ∧ r.inputs.lockLocked = true then
      x.state = .locked ∧ x.k = 0 ∧ x.grant = none ∧ x.pendingMotion = none
    else
      x.k = r.k + 1 ∧
        (if x.state = .stopped then
          (x.pendingMotion.map fun m => (m.kind, m.cls, m.target)) = some (kind, .urgent, some target)
        else ReopeningBegan s.time x kind .urgent (some target)) ∧
        (s.zeroSpeed = false → s.arbiter.supply = .healthy →
          (x.pendingMotion.map fun m => m.stand) = some .withheld)

/-- R24: what an OPEN that acts with a healthy supply comes to. A motion that waits at the doorway gives way
to the OPEN, also where a decision of the same event has begun it before the doorway's turn; one that has
so ended in OBSTRUCTED_OPEN leaves the doorway OPEN. -/
def OpenBegins (u t : State) (d : Doorway) : Prop :=
  let r := u.door d
  let x := t.door d
  (r.state ∈ [DoorState.locked, .closing, .locking, .stopped, .reopening, .paused, .halted] ∨
      (r.state = .opened ∧ r.openShort = true) →
    (∀ m ∈ r.pendingMotion,
      (m.kind = .toOpen → m.cls = .ordinary) ∧
        (m.kind = .fullReopen → m.target = some r.profile.lstroke)) →
      WaitsOrBegan u t d .toOpen .ordinary none ∨
        (r.profile.lstroke ≤ r.p ∧
          (r.pendingMotion.any fun m => decide (m.kind = .toClose ∨ m.kind = .fullReopen)) = true ∧
          x.state = .opened ∧ x.k = 0 ∧ x.pendingMotion = none)) ∧
    (r.pendingMotion = none → r.state ∉ [DoorState.locked, .unlocking, .opening] →
      r.state.outOfControl = false → x.k = 0) ∧
    (r.state = .unlocking ∨ r.state = .opening →
      x.state = r.state ∧ x.grant = r.grant ∧ x.attempt = r.attempt) ∧
    (r.pendingMotion = none → r.state = .opened → r.openShort = false →
      x.state = .opened ∧ x.pendingMotion = none ∧ x.openAttempts = r.openAttempts) ∧
    (r.pendingMotion = none → r.state = .opened → r.openShort = true → x.openAttempts = 0) ∧
    (r.pendingMotion = none → r.state ∈ [DoorState.stopped, .halted, .reopening] →
      x.holdDriven = false) ∧
    (r.pendingMotion = none → r.state = .obstructedOpen →
      x.pendingMotion = none ∧
        x.state = if r.p ≤ 3 ∧ r.inputs.lockLocked = true then .locked else .opened)

/-- R25: what a CLOSE that acts with a healthy supply comes to. A motion that waits may have been begun by a
decision of the same event before the doorway's turn. A CLOSE that arrives with an obstruction has no effect
on the doorway obstructed (R46, log 41). A STOPPED or HALTED doorway with nothing pending takes the CLOSE
(log 32), and a stop in the lock window with the switch reading locked relatches (log 10). -/
def CloseBegins (u t : State) (d : Doorway) : Prop :=
  let r := u.door d
  let x := t.door d
  let fromOpen := decide (r.state = .opened ∧ x.profile.lstroke ≤ x.p + 5)
  let withObstruction := r.state = .obstructedOpen ∧ r.obstructedAt = some u.time
  (r.pendingMotion = none → withObstruction →
    x.state = .obstructedOpen ∧ x.pendingMotion = none ∧ x.k = r.k ∧ x.openAttempts = r.openAttempts) ∧
  (r.pendingMotion = none → ¬ withObstruction →
    r.state ∈ [DoorState.opened, .obstructedOpen, .stopped, .halted] ∨
        (r.state = .paused ∧ r.pausePurpose = some .openRetry) →
      WaitsOrBegan u t d .toClose .ordinary none ∧
        (x.state = .closing → ∀ a ∈ x.attempt, a.beganFromOpen = fromOpen)) ∧
    ((r.pendingMotion.map fun m => (m.kind, m.cls)) = some (.toOpen, .ordinary) →
      r.state ∈ [DoorState.opened, .stopped, .halted] ∨
          (r.state = .paused ∧ r.pausePurpose = some .openRetry) →
        WaitsOrBegan u t d .toClose .ordinary none ∨
          (r.inputs.lockLocked = true ∧ x.state = .locked ∧ x.pendingMotion = none)) ∧
    (∀ m ∈ r.pendingMotion, m.kind ≠ .toOpen →
      (m.kind ≠ .toClose →
        r.p < m.target.getD r.profile.lstroke ∧ r.state ≠ .opened ∧ r.state ≠ .obstructedOpen) →
      (r.state = .paused → r.pausePurpose = some .closeRetry) →
        r.state ∈ [DoorState.opened, .obstructedOpen, .stopped, .paused, .halted] →
          WaitsOrBegan u t d m.kind m.cls m.target ∧
            (r.state = .stopped ∨ r.state = .halted → x.state = r.state → Waits x m.kind m.cls →
              x.openAttempts =
                if m.kind ≠ .toClose ∧ r.obstructedAt = some u.time then r.openAttempts else 0)) ∧
    (r.pendingMotion = none → r.state = .paused → r.pausePurpose = some .closeRetry →
      x.state = .paused ∧ x.pendingMotion = none ∧ x.pauseTimer = r.pauseTimer ∧ x.k = r.k ∧
        x.openAttempts = r.openAttempts) ∧
    (r.state = .opening →
      if r.p ≤ 3 ∧ r.inputs.lockLocked = true then x.state = .locked ∧ x.pendingMotion = none
      else WaitsOrBegan u t d .toClose .ordinary none) ∧
    (r.state ∈ [DoorState.closing, .locking, .reopening] →
      x.state = r.state ∧ x.grant = r.grant ∧ x.k = r.k ∧ x.attempt = r.attempt) ∧
    (r.state = .unlocking →
      x.state = .locked ∧ x.coil = false ∧ x.grant = none ∧ x.unlockTimer = none ∧
        x.unlockFailures = 0 ∧ x.pendingMotion = none) ∧
    (r.state = .locked → (∀ m ∈ r.pendingMotion, m.kind = .toOpen) →
      x.state = .locked ∧ x.pendingMotion = none)

/-- R26: a CLOSE waits that a decision inside the event of R87 may grant before its doorway's turn. -/
def closeWaits (r : Door) : Bool :=
  r.pendingMotion.any fun m =>
    decide (m.kind = .toClose ∧ (m.stand = .queued ∨ m.stand = .waitListed))

/-- R26: what the zero-speed close leaves of a doorway that no grant has set moving before its turn. A
stop in the lock window with the switch reading locked relatches (log 10). -/
def ZeroSpeedClosed (s t : State) (d : Doorway) : Prop :=
  let r := s.door d
  let x := t.door d
  let closes := WaitsOrBegan s t d .toClose .urgent none
  let waits := Waits x .toClose .urgent
  match r.state with
  | .locked =>
    x.state = .locked ∧ x.pendingMotion = none ∧
      x.unlockFailures = (if r.pendingMotion = none then r.unlockFailures else 0)
  | .unlocking =>
    x.state = .locked ∧ x.pendingMotion = none ∧ x.coil = false ∧ x.unlockTimer = none ∧
      x.grant = none ∧ x.unlockFailures = 0
  | .closing | .locking | .emergency | .isolated | .fault => x = { r with holdDeadline := none }
  | .opening | .reopening =>
    if r.p ≤ 3 ∧ r.inputs.lockLocked = true then
      x.state = .locked ∧ x.pendingMotion = none ∧ x.grant = none
    else
      closes ∧ (r.state = .reopening → x.holdDriven = false) ∧
        (waits → x.state = .stopped ∧ x.k = r.k ∧ x.grant = none)
  | .opened | .obstructedOpen => closes ∧ (waits → x.state = r.state ∧ x.k = 0)
  | .stopped => closes ∧ (waits → x.state = .stopped ∧ x.k = r.k)
  | .halted => closes ∧ x.holdDriven = false ∧ (waits → x.state = .halted ∧ x.k = r.k)
  | .paused =>
    closes ∧ x.pauseTimer = none ∧
      (waits → x.state = .paused ∧ x.k = r.k ∧ x.pausePurpose = some .closeRetry)

/-- R24: what an OPEN that acts while the supply is lost leaves of a doorway. A stop in the lock window
with the switch reading locked relatches (log 10). -/
def OpenActed (r x : Door) : Prop :=
  match r.state with
  | .unlocking | .opening | .emergency | .isolated | .fault =>
    x.state = r.state ∧ x.pendingMotion = r.pendingMotion ∧ x.k = r.k
  | .locked => x.state = .locked ∧ Waits x .toOpen .ordinary
  | .opened =>
    x.state = .opened ∧ x.k = 0 ∧
      if r.openShort then x.openAttempts = 0 ∧ Waits x .toOpen .ordinary
      else
        x.openAttempts = r.openAttempts ∧
          x.pendingMotion = r.pendingMotion.filter fun m => m.kind ≠ .toClose
  | .closing | .locking | .reopening =>
    x.state =
        (if r.p ≤ 3 ∧ r.inputs.lockLocked = true then .locked else .stopped) ∧
      x.k = 0 ∧ x.excess = 0 ∧ x.grant = none ∧ x.closeDeadline = none ∧ x.lockTimer = none ∧
        x.history = r.history ∧ Waits x .toOpen .ordinary
  | .stopped | .halted =>
    x.state = r.state ∧ x.k = 0 ∧ x.holdDriven = false ∧ Waits x .toOpen .ordinary
  | .paused =>
    x.state = .paused ∧ x.k = 0 ∧ x.pauseTimer = none ∧ x.pausePurpose = some .openRetry ∧
      x.openAttempts = r.openAttempts ∧ Waits x .toOpen .ordinary
  | .obstructedOpen =>
    x.state = (if r.p ≤ 3 ∧ r.inputs.lockLocked = true then .locked else .opened) ∧ x.k = 0 ∧
      x.pendingMotion = none

/-- R25: what a CLOSE that acts at `now` while the supply is lost leaves of a doorway. One that arrives
with an obstruction has no effect on the doorway obstructed (R46, log 41). -/
def CloseActed (now : Time) (r x : Door) : Prop :=
  let waitsOpenOrNone :=
    r.pendingMotion = none ∨ (r.pendingMotion.map fun m => m.kind) = some .toOpen
  let attempts :=
    if r.obstructedAt = some now ∧
        (r.pendingMotion.any fun m => decide (m.kind = .reopen ∨ m.kind = .fullReopen)) = true then
      r.openAttempts
    else 0
  match r.state with
  | .closing | .locking | .reopening | .emergency | .isolated | .fault =>
    x.state = r.state ∧ x.pendingMotion = r.pendingMotion ∧ x.k = r.k
  | .locked =>
    x.state = .locked ∧
      if (r.pendingMotion.map fun m => m.kind) = some .toOpen then
        x.pendingMotion = none ∧ x.unlockFailures = 0
      else x.pendingMotion = r.pendingMotion
  | .unlocking =>
    x.state = .locked ∧ x.coil = false ∧ x.unlockTimer = none ∧ x.grant = none ∧
      x.unlockFailures = 0
  | .opening =>
    x.openAttempts = 0 ∧ x.grant = none ∧ x.excess = 0 ∧
      if r.p ≤ 3 ∧ r.inputs.lockLocked = true then x.state = .locked
      else x.state = .stopped ∧ Waits x .toClose .ordinary
  | .opened | .obstructedOpen =>
    x.state = r.state ∧
      if (r.pendingMotion.map fun m => m.kind) = some .toClose ∨
          (r.state = .obstructedOpen ∧ r.obstructedAt = some now) then
        x.pendingMotion = r.pendingMotion ∧ x.k = r.k ∧ x.openAttempts = r.openAttempts
      else x.k = 0 ∧ x.openAttempts = 0 ∧ Waits x .toClose .ordinary
  | .stopped =>
    x.state = .stopped ∧ x.k = r.k ∧ x.openAttempts = attempts ∧
      ((waitsOpenOrNone ∧ Waits x .toClose .ordinary) ∨
        (¬ waitsOpenOrNone ∧ x.pendingMotion = r.pendingMotion))
  | .halted =>
    x.state = .halted ∧ x.openAttempts = attempts ∧
      ((waitsOpenOrNone ∧ x.k = 0 ∧ Waits x .toClose .ordinary) ∨
        (¬ waitsOpenOrNone ∧ x.pendingMotion = r.pendingMotion ∧ x.k = r.k))
  | .paused =>
    x.state = .paused ∧
      if r.pausePurpose = some .openRetry then
        x.pauseTimer = none ∧ x.pausePurpose = some .closeRetry ∧ x.k = 0 ∧ x.openAttempts = 0 ∧
          Waits x .toClose .ordinary
      else x.pauseTimer = r.pauseTimer ∧ x.pendingMotion = r.pendingMotion ∧ x.k = r.k

/-! ### What a command leaves at its port -/

/-- R144: the state after a clamp has been counted on a port, where there was one. -/
def clampCounted (q : Port) (clamped : Bool) (s : State) : State :=
  if clamped then
    s.modPort q fun r =>
      { r with
        counts := { r.counts with clamped := min 255 (r.counts.clamped + 1) }
        attention := if q = .platform then r.attention else { r.attention with command := true } }
  else s

/-- R155: a command has been refused on a port: the count, the code, the COMMAND entry, and nothing else
of the part. -/
def Refused (q : Port) (code : Byte) (s t : State) : Prop :=
  t.setPort q (s.port q) = s ∧
    t.port q =
      { s.port q with
        lastRefused := some code
        counts := { (s.port q).counts with refused := min 255 ((s.port q).counts.refused + 1) }
        attention :=
          if q = .platform then (s.port q).attention
          else { (s.port q).attention with command := true } }

/-- R147, R71: the mask selects the doorway, and the doorway is under the part's control. -/
def withinReach (s : State) (mask : Byte) (d : Doorway) : Bool :=
  mask.getLsbD (d.number - 1) &&
    decide ((s.door d).state ∉ [DoorState.emergency, .isolated, .fault])

/-- R70, R71: the stamp a doorway takes when the doorways of a demand are recorded in ascending order. -/
def rankStamp (s : State) (recorded : Doorway → Bool) (d : Doorway) : Stamp :=
  s.demandCounter +
    BitVec.ofNat 16 ((Doorway.all.filter fun e => e.number ≤ d.number).countP recorded)

/-- R74: the first gate, in the table's order, that keeps an OPEN from a doorway. -/
def refusingGate (s : State) (d : Doorway) : Option Gate :=
  if s.zeroSpeed = false then some .zeroSpeed
  else
    match (s.side d.side).release with
    | .none => some .release
    | .unscreened => none
    | .screened =>
      if s.link.lock = .locked ∧ (s.door d).platform.faced = true then none else some .platform

/-- R83: what the end of a deferral comes to: the CLOSE stands UNPOSTED with the supply lost, and waits or
has begun with it healthy. -/
def DeferralEnded (s t : State) (d : Doorway) (m : PendingMotion) : Prop :=
  match s.arbiter.supply with
  | .lost => (t.door d).pendingMotion = some { m with stand := .unposted }
  | .healthy => WaitsOrBegan s t d .toClose m.cls none

/-- R162: what a departure from LOCKED leaves of the link: UNLOCKED, nothing armed, no trigger but the one
being sent, the platform records of both sides cleared and every deferral ended. -/
def LinkDeparted (s t : State) : Prop :=
  t.link =
      { s.link with
        lock := .unlocked, goodRun := 0, badRun := 0, deadline := none, armedReleased := false,
        armedProven := false, triggers := s.link.triggers.take 1 } ∧
    t.rest =
      { (forDoors Doorway.all
          (fun d u => u.modDoor d fun r => { r with platform := PlatformRecord.cleared }) s).rest with
        link := t.rest.link } ∧
    ∀ d : Doorway,
      (t.door d).platform = PlatformRecord.cleared ∧
        ((t.door d).pendingMotion.map fun m => m.stand) ≠ some .deferred ∧
        ∀ m ∈ (s.door d).pendingMotion, m.kind = .toClose → m.stand = .deferred →
          DeferralEnded s t d m

/-- R176, R177: the part as its wake leaves it, before the waking event is taken. -/
def Woken (s w : State) : Prop :=
  let started := fun (a : AttentionSet) => { a with start := some StartCause.wake }
  w =
      { s with
        standDown := false, lastStart := .wake, sides := w.sides
        link := { s.link with lock := .unlocked, goodRun := 0, badRun := 0, deadline := none }
        ports :=
          { s.ports with
            car := { s.ports.car with attention := started s.ports.car.attention }
            service := { s.ports.service with attention := started s.ports.service.attention } } } ∧
    ∀ i : Side,
      let r := s.side i
      w.side i =
        { r with
          watch :=
            if r.verdict = .running then r.watch
            else if r.output = r.loopClosed then .inactive
            else if r.output then .openWatch (s.time + 50)
            else .stuckWatch (s.time + 50) }

/-- R123, R175: what the entry into stand-down leaves of a side: no test runs and the watch is stopped. -/
def StoodDown (u t : State) (i : Side) : Prop :=
  let r := u.side i
  let x := t.side i
  if r.verdict = .running then
    x =
        { r with
          watch := .inactive, priorVerdict := none, stepDeadline := none, proof := x.proof
          verdict := if r.priorVerdict = some .fail then .fail else .aborted, output := x.proof } ∧
      x.proof = proofHolds t i ∧ InBothSets t fun a => a.loopTestDone.get i = true
  else x = { r with watch := .inactive }

/-! ### The proof of a side (chapter 6) -/

/-- R111, R112, R114: the proof field is the proof as computed, the output equals it outside a running
test, the loop watch does not run during a test, and a step deadline runs only during a test. -/
def ProofSound (s : State) : Prop :=
  ∀ i : Side,
    (s.side i).proof = proofHolds s i ∧
      ((s.side i).verdict ≠ .running → (s.side i).output = (s.side i).proof) ∧
      ((s.side i).verdict = .running → (s.side i).watch = .inactive) ∧
      ((s.side i).stepDeadline.isSome = true → (s.side i).verdict = .running)

/-- R112, R165: a side's proof that differs after an event has SIDE_PROOF raised for it in both sets; one that
has risen on an armed link, which the event does not disarm, has its SIDE_PROVEN trigger in the queue, and
none is added on a link that is not armed. -/
def ProofReported (s t : State) (i : Side) : Prop :=
  let trigger : Trigger := ⟨.sideProven, i⟩
  ((t.side i).proof ≠ (s.side i).proof → InBothSets t fun a => a.sideProof.get i = true) ∧
    ((s.side i).proof = false → (t.side i).proof = true → s.link.armedProven = true →
      t.link.armedProven = true → trigger ∈ t.link.triggers) ∧
    (trigger ∈ t.link.triggers → trigger ∈ s.link.triggers ∨ s.link.armedProven = true)

/-- R16, R12: a doorway is in LOCKED or UNLOCKING only while its lock switch reads locked. -/
def LockSound (s : State) : Prop :=
  ∀ d : Doorway,
    (s.door d).state = .locked ∨ (s.door d).state = .unlocking → (s.door d).inputs.lockLocked = true

/-! ### The supply (chapter 5) -/

/-- R5: the states in which a drive or a coil may be energised. -/
def DoorState.energised : DoorState → Bool
  | .unlocking | .opening | .closing | .reopening => true
  | _ => false

/-- R5, R105, R106: a coil is on only in UNLOCKING and OPENING; while the supply is lost every drive and
coil is off, no grant is held and nothing waits in the arbiter. -/
def SupplySound (s : State) : Prop :=
  (∀ d : Doorway,
    (s.door d).coil = true → (s.door d).state = .unlocking ∨ (s.door d).state = .opening) ∧
    (s.arbiter.supply = .lost →
      s.arbiter.heldTotal = 0 ∧ s.arbiter.heldOrdinary = 0 ∧ s.arbiter.urgent = [] ∧
        s.arbiter.ordinary = [] ∧ s.arbiter.waiting = [] ∧
        ∀ d : Doorway,
          (s.door d).state.energised = false ∧ (s.door d).coil = false ∧
            driveCommand (s.door d) = none ∧ (s.door d).grant = none ∧
            ((s.door d).pendingMotion.map fun m => m.stand) ≠ some .queued ∧
            ((s.door d).pendingMotion.map fun m => m.stand) ≠ some .waitListed)

/-- R5: the states of a doorway with a motion under way, in which a grant may be held. -/
def DoorState.moving : DoorState → Bool
  | .unlocking | .opening | .closing | .locking | .reopening => true
  | _ => false

/-- The entry of a queue or of the wait list is the pending motion of its doorway, standing there. -/
def EntryOf (s : State) (w : Standing) (e : Entry) : Prop :=
  ((s.door e.door).pendingMotion.map fun m => (m.kind, m.cls, m.stand)) = some (e.motion, e.cls, w)

/-- Every entry of the arbiter. -/
def Arbiter.entries (a : Arbiter) : List Entry := a.urgent ++ a.ordinary ++ a.waiting

/-- R6 to R9, R92, R94, R95, R124: what waits in the arbiter is what the doorway records say, one request
for a doorway at most, and nothing waits on the wait list while its queue has room; a grant is held only
while a motion is under way, and no pending motion stands then. -/
def RequestSound (s : State) : Prop :=
  (∀ e ∈ s.arbiter.urgent, e.cls = .urgent ∧ EntryOf s .queued e) ∧
    (∀ e ∈ s.arbiter.ordinary, e.cls = .ordinary ∧ EntryOf s .queued e) ∧
    (∀ e ∈ s.arbiter.waiting, EntryOf s .waitListed e ∧ 6 ≤ (s.arbiter.queue e.cls).length) ∧
    (s.arbiter.entries.map fun e => e.door).Nodup ∧
    ∀ d : Doorway,
      ((s.door d).grant.isSome = true → (s.door d).state.moving = true) ∧
        ((s.door d).pendingMotion.isSome = true →
          (s.door d).state.moving = false ∧ (s.door d).state.outOfControl = false)

/-- The amount of the grant that a doorway holds. -/
def grantAmount (r : Door) : Nat :=
  match r.grant with
  | none => 0
  | some g => g.amount

/-- The amount of the grant that a doorway holds in the ordinary class. -/
def ordinaryAmount (r : Door) : Nat :=
  match r.grant with
  | none => 0
  | some g => if g.cls = .ordinary then g.amount else 0

/-- R97, R99: the sums are those of the grants recorded, and they stay within the active pair. -/
def AllowanceSound (s : State) : Prop :=
  RequestSound s ∧
    s.arbiter.heldTotal = (Doorway.all.map fun d => grantAmount (s.door d)).sum ∧
    s.arbiter.heldOrdinary = (Doorway.all.map fun d => ordinaryAmount (s.door d)).sum ∧
    s.arbiter.heldTotal ≤ s.arbiter.active.allowance ∧
    s.arbiter.heldOrdinary ≤ s.arbiter.active.allowance - s.arbiter.active.reserve

/-! ### Zero speed (chapter 4) -/

/-- R72, R78, R87: without zero speed no side is released and service mode is off. -/
def BookSound (s : State) : Prop :=
  s.zeroSpeed = false → s.serviceMode = false ∧ ∀ i : Side, (s.side i).release = .none

/-- R5: the states that open a doorway or keep it opening. -/
def DoorState.opens : DoorState → Bool
  | .unlocking | .opening | .reopening => true
  | _ => false

/-- R7, R16, R26, R87: a LOCKED doorway waits for nothing but an OPEN, only reversals are withheld, and
without zero speed no doorway opens, no opening waits for its grant or its retry, and no reversal stands
in the arbiter. -/
def ZeroSpeedSound (s : State) : Prop :=
  RequestSound s ∧ BookSound s ∧
    ∀ d : Doorway,
      (∀ m ∈ (s.door d).pendingMotion,
        ((s.door d).state = .locked → m.kind = .toOpen) ∧
          (m.stand = .withheld → m.kind = .reopen ∨ m.kind = .fullReopen)) ∧
      (s.zeroSpeed = false →
        (s.door d).state.opens = false ∧
          ((s.door d).state = .paused → (s.door d).pausePurpose ≠ some .openRetry) ∧
          ∀ m ∈ (s.door d).pendingMotion,
            m.kind ≠ .toOpen ∧ (m.kind = .toClose ∨ m.stand = .withheld ∨ m.stand = .unposted))

/-- R97: with the sums and the requests sound, the grant decision would grant nothing. -/
def Decided (s : State) : Prop := AllowanceSound s ∧ ZeroSpeedSound s ∧ nextGrant s.arbiter = none

/-! ### The platform link (chapter 9) -/

/-- R80, R83, R156, R162, R167: triggers are armed, records stand and closings are deferred only while
the link is LOCKED; its deadline runs only while it acquires or is LOCKED; it is QUIESCENT exactly in
stand-down. -/
def LinkSound (s : State) : Prop :=
  (s.link.armedReleased = true ∨ s.link.armedProven = true → s.link.lock = .locked) ∧
    (s.link.lock ≠ .locked → ∀ d : Doorway, (s.door d).platform = PlatformRecord.cleared) ∧
    (∀ d : Doorway,
      ((s.door d).pendingMotion.map fun m => m.stand) = some .deferred → s.link.lock = .locked) ∧
    (s.link.deadline.isSome = true → s.link.lock = .acquiring ∨ s.link.lock = .locked) ∧
    (s.standDown = true ↔ s.link.lock = .quiescent) ∧
    s.link.goodRun ≤ 3 ∧ s.link.badRun ≤ 4 ∧ s.link.triggers.Nodup

/-! ### The receive contexts (chapter 8) -/

/-- R139, R140, R142: a receive context that its port may hold: one COLLECTING holds a command that the port
may issue, with fewer parameter bytes received than the command takes, so it takes at least one. -/
def Context.fits (q : Port) : Context → Bool
  | .collecting c received => c.allowedOn q && decide (received.length < c.paramCount)
  | .idle | .discarding => true

/-- R139, R140, R142: every port holds a receive context that it may hold. -/
def ContextSound (s : State) : Prop := ∀ q : Port, (s.port q).context.fits q = true

/-! ### Drives, coils and the sizes of lists -/

/-- R5, R11, R28: a coil is energised only in UNLOCKING, or in OPENING inside the lock window; a drive
runs only in OPENING, REOPENING and CLOSING, in the direction of its state, and at no more than the
kinetic cap, which the cap of the motion under way never exceeds (log 17). -/
def OutputSound (s : State) : Prop :=
  ∀ d : Doorway,
    let r := s.door d
    (r.coil = true → r.state = .unlocking ∨ (r.state = .opening ∧ r.p ≤ 3)) ∧
      r.motionCap ≤ kineticCap r.profile ∧
      ∀ c ∈ driveCommand r,
        c.2 ≤ kineticCap r.profile ∧
          ((r.state = .closing ∧ c.1 = .closing) ∨
            ((r.state = .opening ∨ r.state = .reopening) ∧ c.1 = .opening))

/-- R51, R92, R94, R139, R149, R155: the lists and counts of the part stay within their sizes. -/
def SizeSound (s : State) : Prop :=
  s.arbiter.urgent.length ≤ 6 ∧ s.arbiter.ordinary.length ≤ 6 ∧
    (∀ d : Doorway, (s.door d).history.length ≤ 8 ∧ (s.door d).overflow ≤ 255) ∧
    (∀ i : Side, (s.side i).monitorEvents ≤ 255) ∧
    ∀ q : Port,
      (s.port q).responses.length ≤ 2 ∧ (s.port q).counts.refused ≤ 255 ∧
        (s.port q).counts.truncated ≤ 255 ∧ (s.port q).counts.clamped ≤ 255 ∧
        (s.port q).counts.unknown ≤ 255 ∧ (s.port q).counts.stray ≤ 255 ∧
        (s.port q).counts.void ≤ 255

/-! ### Settings (chapter 10) -/

/-- R169, R146: every field of a profile lies in its range and under its bound. -/
def ProfileInRange (r : Profile) : Prop :=
  ∀ i ∈ List.range 25, clampField r (i + 1) (profileField r (i + 1)) = profileField r (i + 1)

/-- R168: every car setting lies in its range, and the reserve under the allowance. -/
def SettingsInRange (c : CarSettings) : Prop :=
  (20 ≤ c.allowance ∧ c.allowance ≤ 600) ∧ c.reserve ≤ c.allowance ∧ (5 ≤ c.aopen ∧ c.aopen ≤ 200) ∧
    (5 ≤ c.aclose ∧ c.aclose ≤ 200) ∧ (5 ≤ c.areopen ∧ c.areopen ≤ 200) ∧
    (500 ≤ c.grantLate ∧ c.grantLate ≤ 10000) ∧ c.holdLimit ≤ 30000 ∧
    (200 ≤ c.carSilence ∧ c.carSilence ≤ 5000) ∧
    (c.silentCloseDelay = 0 ∨ (10 ≤ c.silentCloseDelay ∧ c.silentCloseDelay ≤ 300))

/-- R92, R102: an allowance of the arbiter with its reserve. -/
def PairInRange (a : AllowancePair) : Prop :=
  20 ≤ a.allowance ∧ a.allowance ≤ 600 ∧ a.reserve ≤ a.allowance

/-- R102: the pair that the car settings hold: the pending one, or with none the active one. -/
def writtenPair (a : Arbiter) : AllowancePair := a.pair.getD a.active

/-- R56, R92, R102, R168, R169: the settings, the profiles, the arbiter's pairs and the references lie in
their ranges, and the settings hold the pair written last. -/
def SettingsSound (s : State) : Prop :=
  SettingsInRange s.settings ∧ PairInRange s.arbiter.active ∧ (∀ a ∈ s.arbiter.pair, PairInRange a) ∧
    s.settings.allowance = (writtenPair s.arbiter).allowance ∧
    s.settings.reserve = (writtenPair s.arbiter).reserve ∧
    ∀ d : Doorway,
      ProfileInRange (s.door d).profile ∧ (s.door d).refs.length = 32 ∧ (∀ r ∈ (s.door d).refs, r ≤ 1023) ∧
        (s.door d).peaks.length = 32 ∧ (s.door d).marks.length = 32 ∧
        ∀ f ∈ (s.door d).peaks, f ≤ 1023

/-! ### Layouts of responses (section 11.4)

Written from the tables of chapter 11 and not from the bodies that Machine/Responses.lean builds. -/

/-- Every field of a layout stands in the body at the byte number that chapter 11 gives it, bytes counted
from 1. -/
def LaidOut (body : List Byte) (fields : List (Nat × List Byte)) : Prop :=
  ∀ f ∈ fields, (body.drop (f.1 - 1)).take f.2.length = f.2

/-- A number in one byte. -/
def inOne (n : Nat) : List Byte := [BitVec.ofNat 8 n]

/-- A number in two bytes, most significant first (R178). -/
def inTwo (n : Nat) : List Byte := [BitVec.ofNat 8 (n / 256), BitVec.ofNat 8 n]

/-- A time base reading in four bytes, most significant first (R178). -/
def inFour (t : Time) : List Byte := [24, 16, 8, 0].map fun i => (t >>> i).setWidth 8

/-- Bits of one byte, bit 0 first; bits not assigned are 0 (R178). -/
def inBits (bits : List Bool) : List Byte :=
  [BitVec.ofNat 8 ((bits.zipIdx.map fun b => if b.1 then 2 ^ b.2 else 0).sum)]

/-- R179: FFFFh where a field of two bytes is absent. -/
def inTwoOr : Option Nat → List Byte
  | none => [0xFF, 0xFF]
  | some n => inTwo n

/-- R179: zeros where a time base reading is absent. -/
def inFourOr : Option Time → List Byte
  | none => [0, 0, 0, 0]
  | some t => inFour t

/-- Section 11.2: the code of a value, the place of its name in the list of names from `first` on. -/
def inCode {α : Type} [BEq α] (first : Nat) (names : List α) (x : α) : List Byte :=
  inOne (first + names.idxOf x)

/-- R179: the code of an enumerated value that may be absent, 0 when it is. -/
def inCodeOr {α : Type} [BEq α] (names : List α) : Option α → List Byte
  | none => [0]
  | some x => inCode 1 names x

/-- Section 11.2: the doorway states in the order of their codes from 1. -/
def stateNames : List DoorState :=
  [.locked, .unlocking, .opening, .opened, .closing, .locking, .stopped, .reopening, .paused,
   .obstructedOpen, .halted, .emergency, .isolated, .fault]

/-- Section 11.2: the obstruction causes in the order of their codes from 1. -/
def causeNames : List ObstructionCause :=
  [.edge, .forceMargin, .forceAbsolute, .stall, .slow, .lockNotMade]

/-- Section 11.4: the latched fields of an attempt, bytes 20 to 51 of READ DOORWAY. -/
def attemptLayout (a : Attempt) : List (Nat × List Byte) :=
  [(20, inFour a.start), (24, inTwo a.startPos), (26, inTwo a.speed), (28, inTwo a.plugSpeed),
   (30, inTwo a.fabsRun), (32, inTwo a.fabsPlug), (34, inTwo a.mrun), (36, inTwo a.mplug),
   (38, inOne a.kSamples), (39, inTwo a.edgeMute), (41, inTwo a.ioff), (43, inOne a.gain),
   (44, inTwo a.unlockTime), (46, inTwo a.lockTime), (48, inTwo a.tclose), (50, inTwoOr a.target)]

/-- Section 11.4, R179, R180: the answer to READ DOORWAY. -/
def doorwayLayout (s : State) (d : Doorway) : List (Nat × List Byte) :=
  let r := s.door d
  let m := r.pendingMotion
  let f := r.platform
  let classes := [GrantClass.urgent, .ordinary]
  [(1, inOne d.number), (2, inCode 1 stateNames r.state), (3, inTwo r.p),
   (5, inCodeOr [FaultCause.unlockFailed, .lockLost, .positionImplausible, .driveFault] r.faultCause),
   (6, inCodeOr causeNames r.lastCause),
   (7, inBits
      [r.openShort, r.holdDriven, r.attempt.isSome, r.attempt.any fun a => a.beganFromOpen,
       r.closeTime.isSome, r.holdDeadline.isSome, f.holdSince.isSome]),
   (8, inCodeOr [Motion.toOpen, .toClose, .reopen, .fullReopen] (m.map fun m => m.kind)),
   (9, inCodeOr classes (m.map fun m => m.cls)),
   (10, inCodeOr [Standing.queued, .waitListed, .withheld, .deferred, .unposted]
      (m.map fun m => m.stand)),
   (11, inTwoOr (m.bind fun m => m.target)), (13, inTwoOr (r.grant.map fun g => g.amount)),
   (15, inCodeOr classes (r.grant.map fun g => g.cls)), (16, inOne r.k), (17, inOne r.openAttempts),
   (18, inOne r.unlockFailures), (19, inCodeOr [PausePurpose.closeRetry, .openRetry] r.pausePurpose)] ++
  (match r.attempt with
    | none => [(20, List.replicate 32 0)]
    | some a => attemptLayout a) ++
  [(52, inOne r.excess), (53, inTwoOr r.lastForce)] ++
  ((List.range 32).map fun i => (55 + 2 * i, inTwo (r.peaks.getD i 0))) ++
  ((List.range 4).map fun b =>
    (119 + b, inBits ((List.range 8).map fun i => r.marks.getD (8 * b + i) false))) ++
  [(123, inBits
      [r.inputs.lockLocked, r.inputs.edgePressed, r.inputs.handleOperated, r.inputs.isolationOperated,
       r.inputs.overcurrent]),
   (124, inCode 0
      [CarKind.none, .openDemand, .closeDemand, .forcedClose, .zeroSpeedClose, .silentClose] r.carKind),
   (125, inTwo r.carStamp.toNat),
   (127, inCode 0 [ServiceKind.none, .localOpen, .localClose] r.serviceKind),
   (128, inTwo r.serviceStamp.toNat), (130, inBits [f.faced, f.hold, f.overridden]),
   (131, inCode 0 [PanelState.closed, .opening, .opened, .obstructed] f.panel),
   (132, inFourOr f.holdSince), (136, inFourOr r.closeTime), (140, inFourOr r.holdDeadline),
   (144, inOne (if s.serviceMode then 2 else 1))]

/-- Section 11.4: the six bytes of a side record, from a byte number on. -/
def sideLayout (n : Nat) (r : SideRecord) : List (Nat × List Byte) :=
  [(n, inCode 0 [ReleaseMode.none, .screened, .unscreened] r.release),
   (n + 1, inBits [r.proof, r.output]),
   (n + 2, inCode 0 [Verdict.none, .running, .pass, .fail, .aborted] r.verdict),
   (n + 3, inOne r.mismatches), (n + 4, inOne r.step), (n + 5, inOne r.monitorEvents)]

/-- Section 11.4: the answer to READ CAR SUMMARY. -/
def summaryLayout (s : State) : List (Nat × List Byte) :=
  let a := s.arbiter
  let c := s.ports.platform.counts
  let modes := [ReleaseMode.none, .screened, .unscreened]
  [(1, inBits
      [s.zeroSpeed, decide (a.supply = .healthy), s.serviceMode, s.store.busySince.isSome,
       decide (s.carSilence = .silent)]),
   (2, inCode 0 modes (s.side .A).release), (3, inTwo (s.side .A).releaseStamp.toNat),
   (5, inCode 0 modes (s.side .B).release), (6, inTwo (s.side .B).releaseStamp.toNat),
   (8, inTwo s.demandCounter.toNat), (10, inTwo a.active.allowance), (12, inTwo a.active.reserve),
   (14, inTwoOr (a.pair.map fun p => p.allowance)), (16, inTwoOr (a.pair.map fun p => p.reserve)),
   (18, inTwo a.heldTotal), (20, inTwo a.heldOrdinary), (22, inOne a.urgent.length),
   (23, inOne a.ordinary.length), (24, inOne a.waiting.length)] ++
  sideLayout 25 (s.side .A) ++ sideLayout 31 (s.side .B) ++
  [(37, inCode 0 [LockState.unlocked, .acquiring, .locked, .quiescent] s.link.lock),
   (38, inCode 1 [StartCause.powerOn, .restart, .wake] s.lastStart), (39, inOne c.refused),
   (40, inOne c.truncated), (41, inOne c.clamped), (42, inOne c.unknown), (43, inOne c.stray),
   (44, inOne 0), (45, [s.ports.platform.lastRefused.getD 0])]

/-- Section 11.4, R152: the detail of the entry of a kind and a subject, where the set holds one. -/
def attentionDetail (a : AttentionSet) (kind subject : Nat) : Option Nat :=
  let ofDoor := fun (f : Doorway → Option Nat) =>
    if subject = 0 then none else Doorway.all[subject - 1]?.bind f
  let ofSide := fun (f : Side → Option Nat) => [Side.A, .B][subject]?.bind f
  let ofCar := fun (x : Option Nat) => if subject = 0 then x else none
  let plain := fun (b : Bool) => if b then some 0 else none
  let marks := fun (b0 b1 : Bool) =>
    if b0 = false ∧ b1 = false then none else some ((if b0 then 1 else 0) + if b1 then 2 else 0)
  match kind with
  | 1 => ofDoor fun d => (a.state.get d).map fun st => 1 + stateNames.idxOf st
  | 2 => ofDoor fun d => plain (a.obstruction.get d)
  | 3 =>
    ofDoor fun d =>
      (a.openRefused.get d).map fun g => 1 + [Gate.zeroSpeed, .release, .platform].idxOf g
  | 4 => ofDoor fun d => plain (a.grantLate.get d)
  | 5 => ofSide fun i => plain (a.sideProof.get i)
  | 6 => ofSide fun i => plain (a.loopTestDone.get i)
  | 7 => ofSide fun i => (a.loopMonitor.get i).map fun e => 1 + [LoopEvent.loopOpen, .loopStuck].idxOf e
  | 8 =>
    ofCar (a.platformLink.map fun l => [LockState.unlocked, .acquiring, .locked, .quiescent].idxOf l)
  | 9 => ofCar (marks a.supplyLoss a.supplyRestore)
  | 10 => ofCar (a.start.map fun c => 1 + [StartCause.powerOn, .restart, .wake].idxOf c)
  | 11 => ofCar (marks a.saveDone a.storeInvalid)
  | 12 => ofCar (plain a.command)
  | 13 => ofCar (plain a.carSilent)
  | _ => none

/-- Section 11.4: the entries of READ ATTENTION, kind, subject and detail, in ascending kind and within one
kind in ascending subject. -/
def attentionLayout (a : AttentionSet) : List (List Byte) :=
  (List.range 14).flatMap fun kind =>
    (List.range 9).filterMap fun subject =>
      (attentionDetail a kind subject).map fun detail => inOne kind ++ inOne subject ++ inOne detail

/-- Section 11.4: one record of seventeen bytes of READ HISTORY. -/
def historyLayout (h : HistoryRecord) : List (Nat × List Byte) :=
  [(1, inFour h.stamp), (5, inCode 1 [Direction.closing, .opening] h.direction),
   (6, inCode 1 causeNames h.cause), (7, inTwo h.p), (9, inOne h.segment), (10, inOne h.k),
   (11, inTwoOr h.force), (13, inCodeOr [Zone.run, .plug] h.zone), (14, inTwoOr h.threshold),
   (16, inTwoOr h.limit)]

/-- Section 11.4, 11.5: the answer to READ PROFILE, field i in bytes 2i and 2i + 1. -/
def profileLayout (d : Doorway) (r : Profile) : List (Nat × List Byte) :=
  [(1, inOne d.number), (2, inTwo r.lstroke), (4, inTwo r.pz), (6, inTwo r.countsPerMm),
   (8, inTwo r.vopen), (10, inTwo r.vclose), (12, inTwo r.vplug), (14, inTwo r.vfloor),
   (16, inTwo r.elim), (18, inTwo r.mass), (20, inTwo r.ioff), (22, inTwo r.gain), (24, inTwo r.mrun),
   (26, inTwo r.mplug), (28, inTwo r.fabsRun), (30, inTwo r.fabsPlug), (32, inTwo r.kSamples),
   (34, inTwo r.edgeMute), (36, inTwo r.dro), (38, inTwo r.reopenPause), (40, inTwo r.kmax),
   (42, inTwo r.unlockTime), (44, inTwo r.lockTime), (46, inTwo r.tclose), (48, inTwo r.rinit),
   (50, inTwo (if r.learnEnable then 1 else 0)), (52, inTwo (kineticCap r))]

end Sys2Proof.Machine
end

