-- ==== Sys2Proof/Certificates/Slice0/Obligations.lean ====
section
/-! DEFINITION. The statements about the part, one `Obligations.<Name>` each (OBLIGATIONS.json). -/

open Sys2Proof Sys2Proof.Machine

/-- A step takes the command at the front of the queue and answers what `exec` answers on the
rest. -/
def Obligations.StepRunsTheFrontCommand : Prop :=
  ∀ (s : State) (c : Instr) (rest : List Instr),
    s.pending = c :: rest → step s = exec c { s with pending := rest }

/-- What an idle part does is the model's choice, DESIGN CHOICE, log 1. What a doorway keeps for the
events of one moment is log 39, log 41 and log 42, DEDUCED. -/
def Obligations.AnEmptyQueueLetsTimePass : Prop :=
  ∀ (s : State), s.pending = [] →
    (s.powered = false → step s = .next s) ∧
    (s.powered = true → (∀ x ∈ timers s, due s.time x.1 = false) →
      Completes (step s) fun t =>
        t = { s with time := s.time + 1, doors := t.doors } ∧
          ∀ d : Doorway,
            t.door d =
              { s.door d with driveOff := none, obstructedAt := none, unlockMissedAt := none }) ∧
    (s.powered = true →
      ∀ (before after : List (Option Time × Instr)) (x : Option Time × Instr),
        timers s = before ++ x :: after → (∀ y ∈ before, due s.time y.1 = false) →
          due s.time x.1 = true → step s = exec x.2 s)

/-- That no command stops the part is log 33, DEDUCED: the manual names no condition that does. -/
def Obligations.EveryCommandAnswersAndLeavesTheQueue : Prop :=
  ∀ (c : Instr) (s : State), Completes (exec c s) fun t => t.pending = s.pending

/-- DESIGN CHOICE, log 4. -/
def Obligations.AnUnpoweredPartAnswersPowerOnAlone : Prop :=
  ∀ (c : Instr) (s : State),
    s.powered = false → (∀ levels : InputLevels, c ≠ .powerOn levels) → exec c s = .next s

/-- R111, R112, R114, R116, R118, R120, R121, R123: the proof follows every change of a doorway, of
a lock switch reading and of a verdict, and R112, R165: a change of it is reported. That a value
unchanged raises nothing is log 37, DEDUCED. -/
def Obligations.EveryStepKeepsTheProofsSound : Prop :=
  ∀ (s t : State), step s = .next t →
    (ProofSound s → ProofSound t) ∧
      (ContextSound s →
        (∀ c ∈ s.pending.head?, (∀ levels : InputLevels, c ≠ .powerOn levels) ∧
            c ≠ .restart .service ∧ c ≠ .unknownCommand .service 0x3C) →
          ∀ i : Side, ProofReported s t i)

/-- R16: a doorway is in LOCKED only while its lock switch reads locked. -/
def Obligations.EveryStepKeepsLockedDoorwaysLatched : Prop :=
  ∀ (s t : State), LockSound s → step s = .next t → LockSound t

/-- R94: a doorway holds at most one grant and has at most one entry. -/
def Obligations.EveryStepKeepsTheRequestsSound : Prop :=
  ∀ (s t : State), RequestSound s → step s = .next t → RequestSound t

/-- R97, R99: the grants held sum to no more than the active allowance. -/
def Obligations.EveryStepKeepsTheAllowance : Prop :=
  ∀ (s t : State), AllowanceSound s → step s = .next t → AllowanceSound t

/-- R97: the decision is taken at each posting, release, removal, activation and restore, and
repeats until a step stops it; a write that leaves a pair pending takes none (R103). The bound on
nested decisions is log 9, DEDUCED, and the stop at an opening head inside the loss of zero speed is
log 7, DEDUCED. -/
def Obligations.NoGrantableHeadIsLeftWaiting : Prop :=
  ∀ (s t : State), Decided s → step s = .next t →
    (∀ old ∈ s.arbiter.pair, ∀ new ∈ t.arbiter.pair, new = old) → Decided t

/-- R105, R106: while the supply view is LOST the arbiter grants nothing and nothing is
energised. -/
def Obligations.EveryStepKeepsALostSupplyDark : Prop :=
  ∀ (s t : State), SupplySound s → step s = .next t → SupplySound t

/-- R87: the loss of zero speed sets both releases to NONE and ends service mode. -/
def Obligations.EveryStepKeepsReleasesWithinZeroSpeed : Prop :=
  ∀ (s t : State), BookSound s → step s = .next t → BookSound t

/-- R9: an opening or reopening is begun only while zero speed is asserted. -/
def Obligations.NoDoorwayOpensWithoutZeroSpeed : Prop :=
  ∀ (s t : State), ZeroSpeedSound s → step s = .next t → ZeroSpeedSound t

/-- R162, R167: the platform master's word is withdrawn when the link leaves LOCKED. R139, R140,
R142: a port collects the parameters of a command it may issue, until the last one arrives. -/
def Obligations.EveryStepKeepsTheLinkSound : Prop :=
  ∀ (s t : State), step s = .next t →
    (LinkSound s → LinkSound t) ∧ (ContextSound s → ContextSound t)

/-- R5, R11, R28, R29: every commanded drive speed is at most the doorway's kinetic cap v_cap. The
cap kept for the motion under way is log 17, DEDUCED. -/
def Obligations.EveryStepKeepsTheOutputsSound : Prop :=
  ∀ (s t : State), OutputSound s → step s = .next t → OutputSound t

/-- R51, R94, R149, R155. -/
def Obligations.EveryStepKeepsTheListsInSize : Prop :=
  ∀ (s t : State), SizeSound s → step s = .next t → SizeSound t

/-- R144, R146, R168, R169: a value outside its range is clamped before it is used. -/
def Obligations.EveryStepKeepsTheSettingsInRange : Prop :=
  ∀ (s t : State), SettingsSound s → step s = .next t → SettingsSound t

/-- R173: what a power-on leaves. The input levels are log 3, DESIGN CHOICE. -/
def Obligations.ThePartAfterResetIsSound : Prop :=
  ProofSound State.reset ∧ LockSound State.reset ∧ AllowanceSound State.reset ∧
    Decided State.reset ∧ SupplySound State.reset ∧ ZeroSpeedSound State.reset ∧
    LinkSound State.reset ∧ ContextSound State.reset ∧ OutputSound State.reset ∧ SizeSound State.reset ∧
    SettingsSound State.reset

/-- R111: a side's proof output is asserted, outside a running loop test, only while every doorway
of the side is latched. -/
def Obligations.AnAssertedOutputMeansALatchedSide : Prop :=
  ∀ (s : State) (i : Side), ProofSound s → LockSound s →
    (s.side i).verdict ≠ .running → (s.side i).output = true →
      (s.side i).verdict ≠ .fail ∧
        ∀ d ∈ i.doorways,
          ((s.door d).state = .locked ∨ (s.door d).state = .isolated) ∧
            (s.door d).inputs.lockLocked = true

/-- R158: the polynomial x^8 + x^2 + x + 1, not reflected, with no final value. -/
def Obligations.TheCrcIsThePolynomialRemainder : Prop :=
  crc [] = 0 ∧
    (∀ (bytes : List Byte) (b : Byte),
      crc (bytes ++ [b]) =
        ([7, 6, 5, 4, 3, 2, 1, 0].map fun i => b.getLsbD i).foldl
          (fun (reg : Byte) bit => (reg <<< 1) ^^^ (if reg.getLsbD 7 = bit then 0#8 else 0x07#8)) (crc bytes)) ∧
    crc [0x31, 0x32, 0x33, 0x34, 0x35, 0x36, 0x37, 0x38, 0x39] = 0xF4 ∧ crc [0x50] = 0xB7 ∧
    (∀ f : Frame, frameCrc f = crc [0x50, f.side, f.faced, f.panels, f.hold, f.sequence]) ∧
    (∀ (mask check : Byte) (s : State), s.link.lock = .locked →
      armTriggersActs mask check s =
        (if check = crc [0x51, mask] then
          { s with link :=
              { s.link with armedReleased := mask.getLsbD 0, armedProven := mask.getLsbD 1 } }
        else countRefused .platform 0x51 s)) ∧
    (∀ bytes : List Byte, crc (bytes ++ [crc bytes]) = 0) ∧
    ∀ (before after : List Byte) (a b : Byte),
      crc (before ++ a :: after) = crc (before ++ b :: after) → a = b

/-- R28, R29. -/
def Obligations.ClosingSpeedsFollowTheCap : Prop :=
  ∀ (r : Profile) (k : Nat),
    kineticCap r * kineticCap r ≤ (2 * r.elim * 1000) / r.mass ∧
      (2 * r.elim * 1000) / r.mass < (kineticCap r + 1) * (kineticCap r + 1) ∧
      closingSpeed r 0 = min r.vclose (kineticCap r) ∧
      closingSpeed r (k + 1) =
        max (min r.vfloor (min r.vclose (kineticCap r))) ((closingSpeed r k * 3) / 4) ∧
      closingSpeed r (k + 1) ≤ closingSpeed r k ∧ closingSpeed r k ≤ kineticCap r ∧
      min r.vfloor (min r.vclose (kineticCap r)) ≤ closingSpeed r k ∧
      openingSpeed r = min r.vopen (kineticCap r)

/-- R61: the dead band of learning. -/
def Obligations.LearningComesToRestWithinSevenNewtons : Prop :=
  (∀ (r p : Nat),
    (r ≤ p + 7 → p ≤ r + 7 → learned r p = r) ∧
      (r + 8 ≤ p → learned r p = r + (p - r) / 8 ∧ r + 1 ≤ learned r p) ∧
      (p + 8 ≤ r → learned r p = r - (r - p) / 8 ∧ learned r p + 1 ≤ r) ∧
      ∃ n : Nat, ∃ rest : Nat,
        (∀ m : Nat, n ≤ m → (List.replicate m p).foldl learned r = rest) ∧
          rest ≤ p + 7 ∧ p ≤ rest + 7 ∧ (r ≤ p → rest ≤ p) ∧ (p ≤ r → p ≤ rest)) ∧
    ([0, 1, 2, 3, 5, 10, 15, 20, 25, 26].map fun n => (List.replicate n 200).foldl learned 80) =
      [80, 95, 108, 119, 137, 166, 181, 188, 193, 193] ∧
    ([0, 1, 2, 3, 4, 10, 11].map fun n => (List.replicate n 60).foldl learned 80) =
      [80, 78, 76, 74, 73, 67, 67]

/-- R70. -/
def Obligations.StampsWrapAndCompareModulo65536 : Prop :=
  ∀ (a b : Stamp),
    (newer a b = true ↔ 1 ≤ (a.toNat + 65536 - b.toNat) % 65536 ∧
      (a.toNat + 65536 - b.toNat) % 65536 ≤ 32767) ∧
      ¬ (newer a b = true ∧ newer b a = true) ∧
      ∀ n : Nat, 1 ≤ n → n ≤ 32767 → newer (a + BitVec.ofNat 16 n) a = true

/-- R141, R178: eight data bits with the least significant bit first, then the mark bit, then a stop
bit at mark. That a line is one level a bit time, its pauses whole bit times, is the model's choice
in every clause (log 26, DESIGN CHOICE). The row of the last clause, a command's bytes one after
another, is the model's choice too (log 5, DESIGN CHOICE). -/
def Obligations.ACharacterIsReadBackAsItWasSent : Prop :=
  ∀ (b : Byte),
    classifyCharacter (characterBits true b) = .commandByte b ∧
      classifyCharacter (characterBits false b) = .parameterByte b ∧
      classifyCharacter ((characterBits true b).take 10 ++ [false]) = .damaged ∧
      classifyCharacter ((characterBits false b).take 10 ++ [false]) =
        (if b = 0 then .broken else .damaged) ∧
      classifyCharacter (List.replicate 11 false) = .broken ∧
      (∀ characters : List (Nat × Bool × Byte),
        receptions (characters.flatMap fun c => List.replicate c.1 true ++ characterBits c.2.1 c.2.2) =
          characters.map fun c => if c.2.1 then .commandByte c.2.2 else .parameterByte c.2.2) ∧
      (∀ (n : Nat) (line : List Bool),
        receptions (List.replicate (11 + n) false ++ true :: line) = .broken :: receptions line) ∧
      (∀ (n : Nat) (line : List Bool), b ≠ 0 →
        receptions
            ((characterBits false b).take 10 ++ [false] ++ List.replicate n false ++ true :: line) =
          .damaged :: receptions line) ∧
      (∀ r : Response,
        receptions (responseLine r) = .commandByte r.code :: r.body.map fun x => .parameterByte x) ∧
      (∀ t : Trigger,
        receptions (triggerLine t) =
          [.commandByte (match t.kind with | .sideReleased => 0x60 | .sideProven => 0x61),
           .parameterByte (match t.side with | .A => 0 | .B => 1)]) ∧
      ∀ (q : Port) (c : Command) (ps : List Byte) (s : State),
        hearLine q (lineOf (commandCharacters c ps)) s = commandArrives q c ps s

/-- R171, R172: decode of encode for the store. The layout is log 21, DESIGN CHOICE. -/
def Obligations.ASavedCopyLoadsBackWhole : Prop :=
  ∀ (s : State) (d : Doorway), SettingsSound s →
    let copy : StoreCopy :=
      { words := snapshot s, check := checkWord (snapshot s), cutOff := false }
    copyValid copy = true ∧ loadSettings copy = s.settings ∧
      loadProfile copy d = (s.door d).profile ∧ loadRefs copy d = (s.door d).refs

/-- R173, R2, R3, R110, R137, R172: the start event of a power-on. That it does this in every state,
powered ones included, and cuts off a write under way is log 4, DESIGN CHOICE; the layout of the
copy is log 21, DESIGN CHOICE; the inputs as taken are log 11, DEDUCED; that the zero-speed close of
the start comes after every block has its power-on values is log 30, DEDUCED. That the closes are
made from D1 to D8, which gives the stamps, is log 43, DESIGN CHOICE. That a doorway whose inputs
select OPEN and which enters FAULT in the start is given no zero-speed close is log 44, DEDUCED. -/
def Obligations.PowerOnStartsThePartFromItsInputs : Prop :=
  ∀ (s : State) (levels : InputLevels),
    Completes (exec (.powerOn levels) s) fun t =>
      let copy := (cutOffWrite s.store).copy
      (t.powered = true ∧ t.time = 0 ∧ t.standDown = false ∧ t.lastStart = .powerOn ∧
        t.zeroSpeed = levels.zeroSpeed ∧ t.serviceMode = false ∧ t.silentDwell = none ∧
        t.store = cutOffWrite s.store ∧ t.cursor = { door := .D1, segment := 0 } ∧
        t.link = State.reset.link ∧ t.pending = s.pending ∧
        t.carSilence = .notSilent (after 0 t.settings.carSilence) ∧
        t.settings = (if copyValid copy then loadSettings copy else CarSettings.default) ∧
        t.arbiter.supply = (if levels.supplyHealthy then .healthy else .lost) ∧
        t.arbiter.active =
          { allowance := t.settings.allowance,
            reserve := min t.settings.reserve t.settings.allowance } ∧
        t.arbiter.pair = none ∧
        InBothSets t (fun a => a.start = some .powerOn ∧ a.storeInvalid = !copyValid copy)) ∧
      let chosen := fun (d : Doorway) =>
        let x := levels.doors.get d
        let v := x.sensorCount / (t.door d).profile.countsPerMm
        if x.handleOperated then (DoorState.emergency, (none : Option FaultCause))
        else if x.isolationOperated then (.isolated, none)
        else if (t.door d).profile.lstroke + 20 < v then (.fault, some .positionImplausible)
        else if x.overcurrent then (.fault, some .driveFault)
        else if x.lockLocked = true ∧ (t.door d).p ≤ 3 then (.locked, none)
        else (.opened, none)
      (∀ i : Side,
        (t.side i).release = .none ∧ (t.side i).verdict = .none ∧ (t.side i).monitorEvents = 0 ∧
          (t.side i).releaseStamp = 0 ∧ (t.side i).mismatches = 0 ∧ (t.side i).stepDeadline = none ∧
          (t.side i).proof = proofHolds t i ∧ (t.side i).output = proofHolds t i) ∧
      (levels.zeroSpeed = true ∨ (∀ d : Doorway, (chosen d).1 ≠ .opened) →
        t.arbiter.heldTotal = 0 ∧ t.arbiter.heldOrdinary = 0 ∧ t.arbiter.urgent = [] ∧
          t.arbiter.ordinary = [] ∧ t.arbiter.waiting = [] ∧ t.demandCounter = 0) ∧
      (levels.zeroSpeed = false →
        t.demandCounter =
          BitVec.ofNat 16 (Doorway.all.countP fun d => decide ((chosen d).1 = .opened))) ∧
      ∀ d : Doorway,
        let r := t.door d
        let x := levels.doors.get d
        let v := x.sensorCount / r.profile.countsPerMm
        r.inputs = x ∧ r.p = (if r.profile.lstroke + 20 < v then r.profile.lstroke
            else min v r.profile.lstroke) ∧
          r.profile = (if copyValid copy then loadProfile copy d else Profile.default) ∧
          r.refs = (if copyValid copy then loadRefs copy d else List.replicate 32 80) ∧
          r.overflow = 0 ∧ r.platform = PlatformRecord.cleared ∧ r.serviceKind = .none ∧
          r.serviceStamp = 0 ∧ r.holdDeadline = none ∧
          if levels.zeroSpeed = false ∧ (chosen d).1 = .opened then
            r.carKind = .zeroSpeedClose ∧ r.closeTime = some 0 ∧
              r.carStamp =
                BitVec.ofNat 16
                  ((Doorway.all.filter fun e => e.number ≤ d.number).countP fun e =>
                    decide ((chosen e).1 = .opened)) ∧
              WaitsOrBegan t t d .toClose .urgent none ∧ r.state.opens = false
          else
            (r.state, r.faultCause) = chosen d ∧ r.pendingMotion = none ∧ r.grant = none ∧ r.k = 0 ∧
              r.attempt = none ∧ r.history = [] ∧ r.lastCause = none ∧ r.carKind = .none ∧
              r.carStamp = 0 ∧ r.closeTime = none

/-- R174, R2, R92, R110, R121, R139. That the response and the trigger being sent stay is log 19,
DEDUCED; the inputs as taken are log 11, DEDUCED. That the zero-speed close comes after every block
has its start values is log 30, DEDUCED. That a doorway whose inputs select OPEN and which enters
FAULT in the start is given no zero-speed close is log 44, DEDUCED. -/
def Obligations.RestartKeepsWhatThePartHasLearned : Prop :=
  ∀ (s : State),
    s.powered = true →
    Completes (exec (.restart .service) s) fun t =>
      (t.time = s.time ∧ t.store = s.store ∧ t.settings = s.settings ∧ t.standDown = false ∧
        t.lastStart = .restart ∧ t.zeroSpeed = s.zeroSpeed ∧ t.serviceMode = false ∧
        t.silentDwell = none ∧ t.cursor = { door := .D1, segment := 0 } ∧ t.pending = s.pending ∧
        t.link = { State.reset.link with triggers := s.link.triggers.take 1 } ∧
        t.carSilence = .notSilent (after s.time s.settings.carSilence) ∧
        t.arbiter.supply = s.arbiter.supply ∧ t.arbiter.pair = none ∧
        t.arbiter.active =
          { allowance := s.settings.allowance,
            reserve := min s.settings.reserve s.settings.allowance } ∧
        InBothSets t (fun a => a.start = some .restart ∧ a.storeInvalid = false ∧
          a.supplyLoss = false ∧ a.supplyRestore = false ∧ a.platformLink = none ∧
          a.saveDone = false ∧ a.carSilent = false ∧ a.command = false) ∧
        (∀ q : Port, (t.port q).counts = .zero ∧ (t.port q).context = .idle ∧
          (t.port q).responses = if q = .platform then [] else (s.port q).responses.take 1)) ∧
      (∀ i : Side,
        (t.side i).release = .none ∧ (t.side i).mismatches = (s.side i).mismatches ∧
          (t.side i).step = (s.side i).step ∧ (t.side i).monitorEvents = (s.side i).monitorEvents ∧
          (t.side i).verdict =
            (if (s.side i).verdict = .running then
              (if (s.side i).priorVerdict = some .fail then .fail else .aborted)
            else (s.side i).verdict) ∧
          (t.side i).stepDeadline = none ∧ (t.side i).proof = proofHolds t i ∧
          (t.side i).output = proofHolds t i) ∧
      ∀ d : Doorway,
        let r := t.door d
        let was := s.door d
        let v := was.inputs.sensorCount / was.profile.countsPerMm
        r.profile = was.profile ∧ r.refs = was.refs ∧ r.inputs = was.inputs ∧
          r.p = (if was.profile.lstroke + 20 < v then was.p else min v was.profile.lstroke) ∧
          (let selected : DoorState :=
            if was.inputs.handleOperated then .emergency
            else if was.inputs.isolationOperated then .isolated
            else if was.profile.lstroke + 20 < v ∨ was.inputs.overcurrent = true then .fault
            else if was.inputs.lockLocked = true ∧ r.p ≤ 3 then .locked
            else .opened
          s.zeroSpeed = false →
            if selected = .opened then
              r.carKind = .zeroSpeedClose ∧ r.closeTime = some s.time ∧
                WaitsOrBegan t t d .toClose .urgent none ∧ r.state.opens = false
            else r.state = selected ∧ r.pendingMotion = none ∧ r.carKind = .none) ∧
          (s.zeroSpeed = true →
            r.history = was.history ∧ r.overflow = was.overflow ∧ r.lastCause = was.lastCause ∧
              r.pendingMotion = none ∧ r.grant = none ∧ r.carKind = .none ∧ r.attempt = none ∧
              r.k = 0 ∧
              r.state =
                (if was.inputs.handleOperated then .emergency
                else if was.inputs.isolationOperated then .isolated
                else if was.profile.lstroke + 20 < v ∨ was.inputs.overcurrent = true then .fault
                else if was.inputs.lockLocked = true ∧ r.p ≤ 3 then .locked
                else .opened))

/-- R171, R172. The state PART_POWER_LOSS leaves is log 4, DESIGN CHOICE; the moments at which
SAVE_DONE ends a write are log 20, DEDUCED; the words of the copy are log 21, DESIGN CHOICE. -/
def Obligations.ASaveCompletesOrIsCutOff : Prop :=
  ∀ (s : State),
    s.powered = true →
    Completes (exec (.saveSettings .service) s) (fun t =>
      match s.store.busySince with
      | none =>
        t = { arrived .service s with
              store := { s.store with busySince := some s.time, writing := snapshot s } }
      | some _ =>
        t.store = s.store ∧ t.ports.service.lastRefused = some 0x3A ∧
          t.ports.service.counts.refused =
            min 255 ((arrived .service s).ports.service.counts.refused + 1) ∧
          t.ports.service.attention.command = true ∧ CarUntouched s t) ∧
      Completes (exec .saveDone s) (fun t =>
        if s.store.busySince = none ∨ s.store.busySince = some s.time then t = s
        else
          t.store.busySince = none ∧ t.store.copy.words = s.store.writing ∧
            copyValid t.store.copy = true ∧ InBothSets t (fun a => a.saveDone = true) ∧
            t.rest = { s with store := t.store }.rest ∧ t.doors = s.doors ∧ t.arbiter = s.arbiter ∧
            t.sides = s.sides) ∧
      Completes (exec .partPowerLoss s) (fun t =>
        t = { s with powered := false, store := cutOffWrite s.store } ∧
          (s.store.busySince.isSome = true →
            Completes (exec (.powerOn InputLevels.quiet) t) fun u =>
              InBothSets u (fun a => a.storeInvalid = true) ∧ u.settings = CarSettings.default ∧
                ∀ d : Doorway,
                  (u.door d).profile = Profile.default ∧ (u.door d).refs = List.replicate 32 80))

/-- R123, R167, R175, R176, R177. That the trigger being sent stays at the departure from LOCKED is
log 19, DEDUCED; the order in which two running tests are aborted is log 36, DESIGN CHOICE. -/
def Obligations.StandDownAndWake : Prop :=
  ∀ (s : State),
    s.powered = true →
    Completes (exec (.standDown .car) s) (fun t =>
      let u := arrived .car s
      if (∃ d ∈ Doorway.all,
            ((u.door d).state ≠ .locked ∧ (u.door d).state ≠ .isolated) ∨
              ((u.door d).state = .locked ∧ (u.door d).pendingMotion ≠ none) ∨
              (u.door d).inputs.handleOperated = true) ∨
          u.ports.car.attention ≠ .empty then
        t.standDown = u.standDown ∧
          t.ports.car.counts = { u.ports.car.counts with void := min 255 (u.ports.car.counts.void + 1) } ∧
          t.ports.car.attention = { u.ports.car.attention with command := true } ∧
          t.ports.service = u.ports.service ∧ t.link = u.link ∧ t.sides = u.sides ∧ CarUntouched u t
      else
        t.standDown = true ∧ t.link.lock = .quiescent ∧ t.link.goodRun = 0 ∧ t.link.badRun = 0 ∧
          t.link.deadline = none ∧ t.link.lastSequence = u.link.lastSequence ∧
          t.settings = u.settings ∧ t.zeroSpeed = u.zeroSpeed ∧ t.store = u.store ∧
          (u.link.lock = .locked →
            t.link.armedReleased = false ∧ t.link.armedProven = false ∧
              t.link.triggers.length ≤ 1 ∧ (u.link.triggers ≠ [] → t.link.triggers = u.link.triggers.take 1) ∧
              ∀ d : Doorway, (t.door d).platform = PlatformRecord.cleared) ∧
          t =
            { u with
              standDown := true, doors := t.doors, arbiter := t.arbiter, sides := t.sides
              ports := t.ports, link := t.link } ∧
          (∀ q : Port, t.port q = { u.port q with attention := (t.port q).attention }) ∧
          (RequestSound s →
            (∀ i : Side, StoodDown u t i) ∧
              ((∀ i : Side, (u.side i).verdict ≠ .running) → t.ports = u.ports) ∧
              t.arbiter = u.arbiter ∧
              ∀ d : Doorway,
                t.door d =
                  if u.link.lock = .locked then
                    { u.door d with platform := PlatformRecord.cleared }
                  else u.door d)) ∧
      (s.standDown = true →
        ∃ w : State, Woken s w ∧
          (∀ (c : Instr), ∀ x ∈ c.linkCommand, x.1 ≠ .platform → exec c s = exec c w) ∧
          (∀ (q : Port) (code : Byte), q ≠ .platform →
            exec (.unknownCommand q code) s = exec (.unknownCommand q code) w) ∧
          ∀ d : Doorway,
            let x := (s.door d).inputs
            (x.handleOperated = false →
              exec (.emergencyHandleOperated d) s = exec (.emergencyHandleOperated d) w) ∧
              ((s.door d).state = .locked → x.lockLocked = true →
                exec (.lockSwitchChange d false) s = exec (.lockSwitchChange d false) w) ∧
              (x.isolationOperated = false →
                exec (.isolationOperated d) s = exec (.isolationOperated d) w) ∧
              (x.isolationOperated = true →
                exec (.isolationRestored d) s = exec (.isolationRestored d) w)) ∧
      (s.standDown = true → s.link.lock = .quiescent →
        (∀ (c : Instr), ∀ x ∈ c.linkCommand, x.1 = .platform →
          Completes (exec c s) fun t =>
            t.standDown = true ∧ t.link = s.link ∧ t.lastStart = s.lastStart) ∧
          (∀ code : Byte,
            Completes (exec (.unknownCommand .platform code) s) fun t =>
              t.standDown = true ∧ t.link = s.link ∧ t.lastStart = s.lastStart) ∧
          (∀ c ∈ [Instr.lineBreak .platform, .damagedByte .platform],
            Completes (exec c s) fun t =>
              t.standDown = true ∧ t.link = s.link ∧ t.lastStart = s.lastStart) ∧
          (ContextSound s → ∀ b : Byte,
            Completes (exec (.strayParameterByte .platform b) s) fun t =>
              t.standDown = true ∧ t.link = s.link ∧ t.lastStart = s.lastStart)) ∧
      ∀ (q : Port) (code : Byte), s.standDown = true → q ≠ .platform →
        code ∉ [0x10#8, 0x11, 0x12, 0x13, 0x14, 0x15, 0x16, 0x17, 0x18, 0x20, 0x21, 0x22, 0x23, 0x30, 0x31,
            0x32, 0x33, 0x34, 0x35, 0x36, 0x37, 0x38, 0x39, 0x3A, 0x3B, 0x3C, 0x50, 0x51, 0x5F] →
          Completes (exec (.unknownCommand q code) s) fun t =>
            t.standDown = false ∧ t.link.lock = .unlocked ∧ t.lastStart = .wake ∧
              t.link.lastSequence = s.link.lastSequence ∧
              InBothSets t (fun a => a.start = some .wake) ∧ t.doors = s.doors

/-- R105, R106, R108, R23, R46. That the excess counter returns to 0 is log 15, DEDUCED; the kind of
the motion kept with the attempt fields is log 16, DEDUCED; that the reversal of an obstruction of
the same moment is halted where it has been granted is log 41, DEDUCED. -/
def Obligations.ALostSupplyStopsEverything : Prop :=
  ∀ (s : State),
    s.powered = true →
    s.arbiter.supply = .healthy →
    Completes (exec .supplyLoss s) fun t =>
      t.arbiter =
          { active := s.arbiter.pair.getD s.arbiter.active, pair := none, heldTotal := 0,
            heldOrdinary := 0, urgent := [], ordinary := [], waiting := [], supply := .lost } ∧
        t.rest = { s with arbiter := t.arbiter }.rest ∧ InBothSets t (fun a => a.supplyLoss = true) ∧
        ∀ d : Doorway,
          let r := s.door d
          let x := t.door d
          x.grant = none ∧ x.k = r.k ∧ x.history = r.history ∧ x.refs = r.refs ∧
            x.attempt = r.attempt ∧ x.lockTimer = r.lockTimer ∧
            x.pauseTimer = r.pauseTimer ∧
            x.holdDeadline = r.holdDeadline ∧ x.unlockFailures = r.unlockFailures ∧
            x.holdDriven = r.holdDriven ∧ x.platform = r.platform ∧
            match r.state with
            | .unlocking =>
              x.state = .locked ∧ x.unlockTimer = none ∧ x.coil = false ∧
                x.pendingMotion =
                  some { kind := .toOpen, cls := .ordinary, stand := .unposted, target := none }
            | .opening =>
              x.state = .halted ∧ x.closeDeadline = none ∧ x.stallWatch = none ∧ x.coil = false ∧
                x.pendingMotion =
                  some { kind := .toOpen, cls := .ordinary, stand := .unposted, target := none }
            | .closing =>
              x.state = .halted ∧ x.closeDeadline = none ∧ x.stallWatch = none ∧
                x.pendingMotion =
                  some { kind := .toClose, stand := .unposted, target := none,
                         cls := if (r.grant.map fun g => g.cls) = some .urgent then .urgent
                           else .ordinary }
            | .reopening =>
              x.state = .halted ∧ x.closeDeadline = none ∧ x.stallWatch = none ∧
                x.pendingMotion =
                  some { kind := if (r.attempt.map fun a => a.motion) = some .fullReopen then
                           .fullReopen else .reopen,
                         cls := .ordinary, stand := .unposted,
                         target := r.attempt.bind fun a => a.target }
            | _ =>
              x.state = r.state ∧
                x.pendingMotion = r.pendingMotion.map fun m =>
                  if m.stand = .queued ∨ m.stand = .waitListed then { m with stand := .unposted } else m

/-- R107, R97, R7, R83, R9. The bound on nested decisions is log 9, DEDUCED; the opening that ends
at once in HALTED is log 35, DEDUCED. -/
def Obligations.ARestoredSupplyPostsEveryMotion : Prop :=
  ∀ (s : State),
    s.powered = true →
    s.arbiter.supply = .lost →
    AllowanceSound s →
    SupplySound s →
    Completes (exec .supplyRestore s) fun t =>
      t.arbiter.supply = .healthy ∧ InBothSets t (fun a => a.supplyRestore = true) ∧
        t.rest = { s with arbiter := t.arbiter }.rest ∧ nextGrant t.arbiter = none ∧
        (s.arbiter.pair = none → t.arbiter.active = s.arbiter.active) ∧ t.settings = s.settings ∧
        (∀ d : Doorway, ((t.door d).pendingMotion.map fun m => m.stand) ≠ some .unposted) ∧
        ((∀ d : Doorway, (s.door d).pendingMotion = none) →
          t.doors = s.doors ∧ t.arbiter = { s.arbiter with supply := .healthy } ∧ t.sides = s.sides) ∧
        ∀ d : Doorway,
          let r := s.door d
          let x := t.door d
          let held := r.platform.hold = true ∧ r.platform.overridden = false ∧
            s.link.lock = .locked ∧ s.zeroSpeed = true
          let passed :=
            match r.closeTime with
            | none => decide (s.settings.holdLimit = 0)
            | some c => decide (s.settings.holdLimit ≤ (s.time - c).toNat)
          if (r.pendingMotion.map fun m => m.stand) ≠ some .unposted then x = r
          else ∀ m ∈ r.pendingMotion,
            if s.zeroSpeed = false ∧ m.kind = .toOpen then x = { r with pendingMotion := none }
            else if s.zeroSpeed = false ∧ m.kind ≠ .toClose then
              x = { r with pendingMotion := some { m with stand := .withheld } }
            else if held ∧ m.kind = .toClose ∧ m.cls = .ordinary then
              if passed then
                x.platform.overridden = true ∧ WaitsOrBegan s t d .toClose .ordinary none
              else
                x =
                  { r with
                    pendingMotion := some { m with stand := .deferred }
                    holdDeadline :=
                      some
                        (match r.closeTime with
                        | none => s.time + BitVec.ofNat 32 s.settings.holdLimit
                        | some c => c + BitVec.ofNat 32 s.settings.holdLimit) }
            else WaitsOrBegan s t d m.kind m.cls m.target

/-- R87, R26, R70, R97. That no opening begins inside the event is log 7, DEDUCED; the relatching of
a stop in the lock window is log 10, DEDUCED. -/
def Obligations.TheLossOfZeroSpeedSendsEveryDoorwayHome : Prop :=
  ∀ (s : State),
    s.powered = true →
    s.zeroSpeed = true →
    ZeroSpeedSound s →
    Completes (exec .zeroSpeedLoss s) fun t =>
      let released := [Side.A, .B].countP fun i => (s.side i).release ≠ .none
      let closes := fun (d : Doorway) =>
        decide ((s.door d).state ∈ [DoorState.opening, .opened, .stopped, .reopening, .paused,
          .obstructedOpen, .halted])
      t.zeroSpeed = false ∧ t.serviceMode = false ∧
        (∀ i : Side, (t.side i).release = .none ∧ (t.side i).verdict ≠ .running ∧
          (t.side i).loopClosed = (s.side i).loopClosed) ∧
        t.settings = s.settings ∧ t.time = s.time ∧ t.store = s.store ∧ t.pending = s.pending ∧
        t.carSilence = s.carSilence ∧ t.link.lock = s.link.lock ∧
        ∃ recorded : Doorway → Bool,
          t.demandCounter =
              s.demandCounter + BitVec.ofNat 16 (released + Doorway.all.countP recorded) ∧
            ∀ d : Doorway,
              (recorded d = true → closes d = true) ∧
                (closes d = true → closeWaits (s.door d) = false ∨ s.arbiter.supply = .lost →
                  recorded d = true) ∧
                (t.door d).holdDeadline = none ∧ (t.door d).p = (s.door d).p ∧
                (t.door d).inputs = (s.door d).inputs ∧ (t.door d).platform = (s.door d).platform ∧
                (t.door d).serviceKind = (s.door d).serviceKind ∧
                (t.door d).state.opens = false ∧
                ((t.door d).pendingMotion.map fun m => m.kind) ≠ some .toOpen ∧
                (if recorded d then
                  (t.door d).carKind = .zeroSpeedClose ∧ (t.door d).closeTime = some s.time ∧
                    (t.door d).carStamp =
                      s.demandCounter + BitVec.ofNat 16
                        (released + (Doorway.all.filter fun x => x.number ≤ d.number).countP recorded)
                else
                  (t.door d).carKind = (s.door d).carKind ∧ (t.door d).carStamp = (s.door d).carStamp ∧
                    (t.door d).closeTime = (s.door d).closeTime) ∧
                if closeWaits (s.door d) = false then ZeroSpeedClosed s t d
                else if recorded d then WaitsOrBegan s t d .toClose .urgent none
                else ∀ m ∈ (s.door d).pendingMotion, ClosingBegan s.time (t.door d) m.cls

/-- R88, R7, R97. The kind chosen under a lost supply is log 29, DEDUCED. The order in which the
holds that rise are answered is log 24, DEDUCED. -/
def Obligations.TheReturnOfZeroSpeedPostsEveryWithheldReversal : Prop :=
  ∀ (s : State),
    s.powered = true →
    s.zeroSpeed = false →
    RequestSound s →
    Completes (exec .zeroSpeedRegain s) fun t =>
      t.zeroSpeed = true ∧ t.rest = { s with zeroSpeed := true }.rest ∧
        (∀ d : Doorway, ((t.door d).pendingMotion.map fun m => m.stand) ≠ some .withheld) ∧
        ∀ d : Doorway,
          let r := s.door d
          let x := t.door d
          let held := r.platform.hold = true ∧ r.platform.overridden = false ∧ s.link.lock = .locked
          let since := (r.closeTime.or (r.attempt.map fun a => a.start)).getD s.time
          let passed :=
            match r.closeTime with
            | some c => decide (s.settings.holdLimit ≤ (s.time - c).toNat)
            | none => decide (s.settings.holdLimit = 0)
          (∀ m ∈ r.pendingMotion, m.stand = .withheld →
            let kind := if r.k ≤ r.profile.kmax then Motion.reopen else .fullReopen
            let target := if r.k ≤ r.profile.kmax then m.target else some r.profile.lstroke
            (s.arbiter.supply = .lost →
              (x.pendingMotion.map fun y => (y.kind, y.cls, y.stand, y.target)) =
                some (kind, .urgent, .unposted, target)) ∧
              (s.arbiter.supply = .healthy → WaitsOrBegan s t d kind .urgent target)) ∧
            (r.state = .closing →
              if held ∧ r.profile.pz ≤ r.p ∧ (r.grant.map fun g => g.cls) = some .ordinary then
                if (s.time - since).toNat < s.settings.holdLimit then
                  3 < r.p → r.p < r.profile.lstroke →
                    x.holdDriven = true ∧ x.platform = r.platform ∧ x.k = r.k ∧
                      x.history = r.history ∧ x.lastCause = r.lastCause ∧
                      WaitsOrBegan s t d .fullReopen .urgent (some r.profile.lstroke)
                else x = { r with platform := { r.platform with overridden := true } }
              else x = r) ∧
            (held → ∀ m ∈ r.pendingMotion, m.kind = .toClose → m.cls = .ordinary →
              m.stand = .queued ∨ m.stand = .waitListed →
                (x.attempt.map fun a => a.start) = some s.time ∨
                  if passed then x.platform.overridden = true ∧ Waits x .toClose .ordinary
                  else
                    (x.pendingMotion.map fun y => (y.kind, y.cls, y.stand)) =
                        some (.toClose, .ordinary, .deferred) ∧
                      x.holdDeadline =
                        some (r.closeTime.getD s.time + BitVec.ofNat 32 s.settings.holdLimit)) ∧
            (held → x.platform.overridden = false → ∀ m ∈ x.pendingMotion,
              m.kind = .toClose → m.cls = .ordinary → m.stand ≠ .queued ∧ m.stand ≠ .waitListed)

/-- R3, R7, R11, R13, R14, R17, R18, R19, R20, R37, R39, R170. That a coil stays off once the leaf
has passed 3 mm is log 18, DEDUCED; the relatching of an obstructed doorway is log 10, DEDUCED. -/
def Obligations.APlausibleReadingIsTakenIntoP : Prop :=
  ∀ (s : State) (d : Doorway) (count : Nat),
    s.powered = true →
    RequestSound s →
    count / (s.door d).profile.countsPerMm ≤ (s.door d).profile.lstroke + 20 →
    (s.door d).rescaled = true ∨
      (count / (s.door d).profile.countsPerMm ≤ (s.door d).p + 50 ∧
        (s.door d).p ≤ count / (s.door d).profile.countsPerMm + 50) →
    Completes (exec (.positionReading d count) s) fun t =>
      let r := s.door d
      let v := min (count / r.profile.countsPerMm) r.profile.lstroke
      let x := t.door d
      let taken := s.modDoor d fun r =>
        { r with
          p := v, rescaled := false, inputs := { r.inputs with sensorCount := count }
          stallWatch := r.stallWatch.map fun w =>
            if v = w.reference then w else { reference := v, deadline := s.time + 300 } }
      x.p = v ∧ t.rest = taken.rest ∧
        (r.state ∈ [DoorState.locked, .unlocking, .locking, .obstructedOpen, .halted, .emergency,
            .isolated, .fault] → t = taken) ∧
        (r.state = .opening →
          if r.profile.lstroke ≤ v + 5 then
            x.state = .opened ∧ x.k = 0 ∧ x.openAttempts = 0 ∧ x.openShort = false ∧ x.grant = none ∧
              x.coil = false ∧ x.stallWatch = none
          else t = taken.modDoor d fun r => { r with coil := r.coil && decide (v ≤ 3) }) ∧
        (r.state = .closing → ∀ a ∈ r.attempt,
          if v ≤ 3 then
            if r.inputs.lockLocked then
              x.state = .locked ∧ x.k = 0 ∧ x.grant = none ∧ x.closeDeadline = none
            else
              x.state = .locking ∧ x.lockTimer = some (after s.time a.lockTime) ∧ x.grant = r.grant ∧
                x.closeDeadline = r.closeDeadline ∧ x.k = r.k
          else if r.inputs.edgePressed = true ∧ r.p < a.edgeMute ∧ a.edgeMute ≤ v then
            Obstructed taken t d
              { stamp := s.time, direction := .closing, cause := .edge, p := v,
                segment := min 31 ((v * 32) / r.profile.lstroke), k := r.k + 1,
                force := r.lastForce, zone := none, threshold := none, limit := none }
          else t = taken) ∧
        (r.state = .reopening → ∀ a ∈ r.attempt, ∀ target ∈ a.target,
          (v < target → t = taken) ∧
            (target ≤ v →
              (a.motion = .reopen →
                x.k = r.k ∧ x.state = .paused ∧ x.pausePurpose = some .closeRetry ∧
                  x.grant = none ∧ x.pauseTimer = some (after s.time r.profile.reopenPause)) ∧
              (a.motion = .fullReopen → r.holdDriven = false →
                x.k = r.k ∧ x.state = .obstructedOpen ∧ x.grant = none ∧
                  InBothSets t fun a => a.state.get d = some .obstructedOpen) ∧
              (a.motion = .fullReopen → r.holdDriven = true →
                x.holdDriven = false ∧ WaitsOrBegan s t d .toClose .ordinary none ∧
                  (Waits x .toClose .ordinary →
                    x.state = .opened ∧ x.k = r.k ∧ x.grant = none ∧
                      x.openShort = decide (v + 5 < r.profile.lstroke))))) ∧
        (r.state ∈ [DoorState.opened, .stopped, .paused] →
          if v ≤ 3 ∧ r.inputs.lockLocked = true then
            Relatched s t d
              (decide (r.state = .paused ∧ r.pausePurpose = some .openRetry) && r.pauseTimer.isSome)
          else
            t = taken.modDoor d fun y =>
              { y with openShort :=
                  if r.state = .opened then decide (v + 5 < r.profile.lstroke) else y.openShort })

/-- R31, R32, R33, R34, R35, R36, R42, R46, R47, R50. That a sample of the moment at which the drive
was switched off belongs to the motion stopped is log 39, DEDUCED. -/
def Obligations.ASampleBelowItsLimitsIsMeasured : Prop :=
  ∀ (s : State) (d : Doorway) (current : Int),
    s.powered = true →
    Completes (exec (.currentSample d current) s) fun t =>
      let r := s.door d
      ((r.state ≠ .opening ∧ r.state ≠ .closing ∧ r.state ≠ .reopening) → t = s) ∧
        (r.driveOff = some s.time → t = s) ∧
        (r.driveOff ≠ some s.time → ∀ a ∈ r.attempt,
          let i := min 16383 current.toNat
          let force := min 1023 (((i - a.ioff) * a.gain) / 256)
          let seg := min 31 ((r.p * 32) / r.profile.lstroke)
          let limit := if r.p < r.profile.pz then a.fabsPlug else a.fabsRun
          let threshold := r.envelope.getD seg 0 + if r.p < r.profile.pz then a.mplug else a.mrun
          force ≤ limit →
            (r.state = .opening ∨ r.state = .reopening →
              t = s.modDoor d fun r => { r with lastForce := some force }) ∧
            (r.state = .closing → (force ≤ threshold ∨ r.excess + 1 ≠ a.kSamples) →
              t = s.modDoor d fun r =>
                { r with
                  lastForce := some force
                  peaks := r.peaks.set seg (max (r.peaks.getD seg 0) force)
                  marks := r.marks.set seg true
                  excess := if force ≤ threshold then 0 else r.excess + 1 }))

/-- R30, R31, R34, R35, R36, R37, R39, R40, R41, R43, R44, R51, R52; the relatching at the entry is
log 10, DEDUCED, and the sample that comes with a stop is log 39, DEDUCED. -/
def Obligations.AnObstructionStopsRecordsAndReverses : Prop :=
  ∀ (s : State) (d : Doorway) (current : Int),
    s.powered = true →
    RequestSound s →
    (s.door d).state = .closing ∨ (s.door d).state = .locking →
    let r := s.door d
    let entry := fun (cause : ObstructionCause) (force : Option Nat) (zone : Option Zone)
        (threshold limit : Option Nat) =>
      ({ stamp := s.time, direction := .closing, cause := cause, p := r.p,
         segment := min 31 ((r.p * 32) / r.profile.lstroke), k := r.k + 1, force := force,
         zone := zone, threshold := threshold, limit := limit } : HistoryRecord)
    (r.state = .closing → ∀ a ∈ r.attempt, r.inputs.edgePressed = false → a.edgeMute ≤ r.p →
      Completes (exec (.edgeChange d true) s) fun t =>
        Obstructed s t d (entry .edge r.lastForce none none none) ∧
          t.rest = (withInput d (fun x => { x with edgePressed := true }) s).rest) ∧
    (r.state = .closing → ∀ w ∈ r.stallWatch, due s.time (some w.deadline) = true →
      Completes (exec (.stallWatchExpiry d) s) fun t =>
        Obstructed s t d (entry .stall r.lastForce none none none) ∧ t.rest = s.rest) ∧
    (due s.time r.closeDeadline = true →
      Completes (exec (.closeDeadlineExpiry d) s) fun t =>
        Obstructed s t d (entry .slow r.lastForce none none none) ∧ t.rest = s.rest) ∧
    (r.state = .locking → due s.time r.lockTimer = true →
      Completes (exec (.lockTimerExpiry d) s) fun t =>
        Obstructed s t d (entry .lockNotMade r.lastForce none none none) ∧ t.rest = s.rest) ∧
    (r.state = .closing → r.driveOff ≠ some s.time → ∀ a ∈ r.attempt,
      let force := min 1023 (((min 16383 current.toNat - a.ioff) * a.gain) / 256)
      let zone := if r.p < r.profile.pz then Zone.plug else Zone.run
      let limit := if r.p < r.profile.pz then a.fabsPlug else a.fabsRun
      let threshold := r.envelope.getD (min 31 ((r.p * 32) / r.profile.lstroke)) 0 +
        if r.p < r.profile.pz then a.mplug else a.mrun
      (limit < force →
        Completes (exec (.currentSample d current) s) fun t =>
          Obstructed s t d (entry .forceAbsolute (some force) (some zone) none (some limit)) ∧
            t.rest = s.rest) ∧
      (force ≤ limit → threshold < force → r.excess + 1 = a.kSamples →
        Completes (exec (.currentSample d current) s) fun t =>
          Obstructed s t d (entry .forceMargin (some force) (some zone) (some threshold) none) ∧
            t.rest = s.rest))

/-- R48, R50, R51, R52, R19, R7. The relatching of a stop in the lock window is log 10, DEDUCED; the
sample that comes with a stop is log 39, DEDUCED. -/
def Obligations.ABlockedMotionPausesOrStaysShort : Prop :=
  ∀ (s : State) (d : Doorway) (current : Int),
    s.powered = true →
    RequestSound s →
    (s.door d).state = .opening ∨ (s.door d).state = .reopening →
    let r := s.door d
    let entry := fun (cause : ObstructionCause) (force : Option Nat) (zone : Option Zone)
        (limit : Option Nat) =>
      ({ stamp := s.time, direction := .opening, cause := cause, p := r.p,
         segment := min 31 ((r.p * 32) / r.profile.lstroke), k := r.k, force := force,
         zone := zone, threshold := none, limit := limit } : HistoryRecord)
    let blocked := fun (entry : HistoryRecord) (t : State) =>
      let x := t.door d
      Recorded s t d entry ∧ t.rest = s.rest ∧
        (¬ (r.p ≤ 3 ∧ r.inputs.lockLocked = true) →
          x.grant = none ∧ x.k = r.k ∧ x.coil = false ∧ x.pendingMotion = none ∧
            x.stallWatch = none ∧
            if r.state = .reopening then
              x.state = .paused ∧ x.pausePurpose = some .closeRetry ∧ x.holdDriven = false ∧
                x.pauseTimer = some (after s.time r.profile.reopenPause) ∧
                x.openAttempts = r.openAttempts
            else
              x.openAttempts = r.openAttempts + 1 ∧
                if r.openAttempts = 0 then
                  x.state = .paused ∧ x.pausePurpose = some .openRetry ∧
                    x.pauseTimer = some (after s.time r.profile.reopenPause)
                else
                  x.state = .opened ∧ x.openShort = decide (r.p + 5 < r.profile.lstroke) ∧
                    x.pausePurpose = none) ∧
        (r.p ≤ 3 → r.inputs.lockLocked = true →
          Relatched s t d (decide (r.state = .opening ∧ r.openAttempts = 0)))
    (∀ w ∈ r.stallWatch, due s.time (some w.deadline) = true →
      Completes (exec (.stallWatchExpiry d) s) (blocked (entry .stall r.lastForce none none))) ∧
    (r.driveOff ≠ some s.time → ∀ a ∈ r.attempt,
      let force := min 1023 (((min 16383 current.toNat - a.ioff) * a.gain) / 256)
      let limit := if r.p < r.profile.pz then a.fabsPlug else a.fabsRun
      limit < force →
        Completes (exec (.currentSample d current) s)
          (blocked (entry .forceAbsolute (some force)
            (some (if r.p < r.profile.pz then .plug else .run)) (some limit))))

/-- R124, R128, R130, R133 to R137, R4, R16, R176. That a doorway keeps the moment at which its
drive was last switched off is log 39, DEDUCED. -/
def Obligations.EveryWayOutOfControlMakesTheSameEntry : Prop :=
  ∀ (s : State) (d : Doorway) (count : Nat),
    s.powered = true →
    RequestSound s →
    let r := s.door d
    let v := count / r.profile.countsPerMm
    (r.state = .locked → r.inputs.lockLocked = true →
      Completes (exec (.lockSwitchChange d false) s) fun t =>
        LeftControl s t d .fault (some .lockLost) ∧ t.standDown = false ∧
          t.rest = (withInput d (fun x => { x with lockLocked := false }) (wakeFirst s)).rest) ∧
    (r.profile.lstroke + 20 < v ∨ (r.rescaled = false ∧ (r.p + 50 < v ∨ v + 50 < r.p)) →
      Completes (exec (.positionReading d count) s) fun t =>
        t.rest =
            (s.modDoor d fun r =>
              { r with rescaled := false, inputs := { r.inputs with sensorCount := count } }).rest ∧
          if r.state.outOfControl then
            t = s.modDoor d fun r =>
              { r with rescaled := false, inputs := { r.inputs with sensorCount := count } }
          else LeftControl s t d .fault (some .positionImplausible)) ∧
    (r.inputs.overcurrent = false → r.state.outOfControl = false →
      Completes (exec (.driveOvercurrent d) s) fun t =>
        LeftControl s t d .fault (some .driveFault) ∧
          t.rest = (withInput d (fun x => { x with overcurrent := true }) s).rest) ∧
    (r.inputs.handleOperated = false →
      Completes (exec (.emergencyHandleOperated d) s) fun t =>
        LeftControl s t d .emergency none ∧ t.standDown = false ∧
          t.rest = (withInput d (fun x => { x with handleOperated := true }) (wakeFirst s)).rest) ∧
    (r.inputs.isolationOperated = false → r.state ≠ .emergency →
      Completes (exec (.isolationOperated d) s) fun t =>
        LeftControl s t d .isolated none ∧ t.standDown = false ∧
          t.rest = (withInput d (fun x => { x with isolationOperated := true }) (wakeFirst s)).rest)

/-- R126, R127, R129, R131, R138, R26. That the evaluation ends the suspension of the change check
is log 28, DEDUCED. That a doorway keeps the moment at which its drive was last switched off is log
39, DEDUCED. -/
def Obligations.TheReturnEvaluationReadsTheInputs : Prop :=
  ∀ (s : State) (d : Doorway) (mask : Byte),
    s.powered = true →
    RequestSound s →
    let returnsOpen := fun (r : Door) =>
      let v := r.inputs.sensorCount / r.profile.countsPerMm
      decide (r.inputs.handleOperated = false ∧ r.inputs.isolationOperated = false ∧
        v ≤ r.profile.lstroke + 20 ∧ r.inputs.overcurrent = false ∧
        ¬ (r.inputs.lockLocked = true ∧ min v r.profile.lstroke ≤ 3))
    let evaluated := fun (u t : State) (d : Doorway) (stamp : Stamp) =>
      let r := u.door d
      let x := t.door d
      let v := r.inputs.sensorCount / r.profile.countsPerMm
      let p := min v r.profile.lstroke
      let moved := u.modDoor d fun r => { r with p := p }
      let enters := fun (u : State) (st : DoorState) (cause : Option FaultCause) =>
        if r.state = st then
          x = { u.door d with faultCause := cause, rescaled := x.rescaled } ∧
            InBothSets t (fun a => a.state.get d = some st)
        else LeftControl u t d st cause
      let back : Door :=
        { r with
          p := p, rescaled := false, pendingMotion := none, grant := none, k := 0,
          openAttempts := 0, unlockFailures := 0, excess := 0, faultCause := none,
          unlockTimer := none, lockTimer := none, closeDeadline := none, pauseTimer := none,
          pausePurpose := none, holdDriven := false, coil := false, stallWatch := none
          state := if r.inputs.lockLocked = true ∧ p ≤ 3 then .locked else .opened
          openShort := !(r.inputs.lockLocked && decide (p ≤ 3)) && decide (p + 5 < r.profile.lstroke) }
      if r.inputs.handleOperated then enters u .emergency none
      else if r.inputs.isolationOperated then enters u .isolated none
      else if r.profile.lstroke + 20 < v then enters u .fault (some .positionImplausible)
      else if r.inputs.overcurrent then enters moved .fault (some .driveFault)
      else if s.zeroSpeed = false ∧ ¬ (r.inputs.lockLocked = true ∧ p ≤ 3) then
        x.rest =
            { back with carKind := .zeroSpeedClose, carStamp := stamp, closeTime := some s.time }.rest ∧
          WaitsOrBegan s t d .toClose .urgent none ∧ x.faultCause = none ∧ x.openAttempts = 0 ∧
          x.unlockFailures = 0 ∧ x.state.opens = false ∧ (x.k = 0 ∨ x.k = 1) ∧
          (Waits x .toClose .urgent →
            x =
              { back with
                carKind := .zeroSpeedClose, carStamp := stamp, closeTime := some s.time
                pendingMotion := x.pendingMotion, holdDeadline := x.holdDeadline } ∧
              (x.holdDeadline = none ∨ x.holdDeadline = r.holdDeadline))
      else x = back
    let others := fun (t : State) (acts closes : Doorway → Bool) =>
      t.demandCounter = s.demandCounter + BitVec.ofNat 16 (Doorway.all.countP closes) ∧
        t.arbiter.supply = s.arbiter.supply ∧
        (s.arbiter.pair = none → t.arbiter.active = s.arbiter.active) ∧
        (∀ e : Doorway, acts e = false → (t.door e).rest = (s.door e).rest) ∧
        (Doorway.all.countP closes = 0 →
          t.arbiter = s.arbiter ∧ ∀ e : Doorway, acts e = false → t.door e = s.door e)
    let only := fun (u : State) (e : Doorway) =>
      decide (e = d) && !s.zeroSpeed && returnsOpen (u.door e)
    let u := withInput d (fun x => { x with handleOperated := false }) s
    let w := withInput d (fun x => { x with isolationOperated := false }) s
    ((s.door d).state = .emergency → (s.door d).inputs.handleOperated = true →
      Completes (exec (.emergencyHandleRestored d) s) fun t =>
        evaluated u t d (s.demandCounter + 1) ∧ others t (fun e => decide (e = d)) (only u)) ∧
    ((s.door d).state = .isolated → (s.door d).inputs.isolationOperated = true →
      Completes (exec (.isolationRestored d) s) fun t =>
        evaluated w t d (s.demandCounter + 1) ∧ others t (fun e => decide (e = d)) (only w) ∧
          t.standDown = false) ∧
    let acts := fun (e : Doorway) =>
      mask.getLsbD (e.number - 1) && decide ((s.door e).state = .fault)
    let closes := fun (e : Doorway) => acts e && !s.zeroSpeed && returnsOpen (s.door e)
    Completes (exec (.restore .service [mask]) s) fun t =>
      (∀ e : Doorway, acts e = true → evaluated s t e (rankStamp s closes e)) ∧ others t acts closes

/-- R38, R125, R128 to R131, R137. That a locked reading of the moment of the obstruction, with the
leaf in the lock window, relatches a doorway whose reversal has begun is log 41, DEDUCED. That a
level already taken is no change and has no effect is log 12, DEDUCED: the model's reading, wherever
the row brings the level that already stood. -/
def Obligations.OtherInputsAreFollowedWithoutEffect : Prop :=
  ∀ (s : State) (d : Doorway) (level : Bool),
    s.powered = true →
    let r := s.door d
    (r.state ≠ .closing ∨ level = false ∨ (∀ a ∈ r.attempt, r.p < a.edgeMute) →
      Completes (exec (.edgeChange d level) s) fun t =>
        t = withInput d (fun x => { x with edgePressed := level }) s) ∧
    (Completes (exec (.driveOvercurrentCleared d) s) fun t =>
      t = withInput d (fun x => { x with overcurrent := false }) s) ∧
    (r.state.outOfControl = true →
      Completes (exec (.driveOvercurrent d) s) fun t =>
        t = withInput d (fun x => { x with overcurrent := true }) s) ∧
    (r.state = .emergency → r.inputs.isolationOperated = false →
      Completes (exec (.isolationOperated d) s) fun t =>
        t = withInput d (fun x => { x with isolationOperated := true }) (wakeFirst s)) ∧
    (r.state ≠ .emergency →
      Completes (exec (.emergencyHandleRestored d) s) fun t =>
        t = withInput d (fun x => { x with handleOperated := false }) s) ∧
    (r.state ≠ .isolated → r.inputs.isolationOperated = true →
      Completes (exec (.isolationRestored d) s) fun t =>
        t = withInput d (fun x => { x with isolationOperated := false }) (wakeFirst s)) ∧
    (r.state ∈ [DoorState.opening, .closing, .reopening, .obstructedOpen, .halted, .emergency, .fault] →
      ¬ (r.state = .reopening ∧ level = true ∧ r.p ≤ 3 ∧ r.obstructedAt = some s.time) →
      Completes (exec (.lockSwitchChange d level) s) fun t =>
        t = withInput d (fun x => { x with lockLocked := level }) s) ∧
    ((r.state ∈ [DoorState.opened, .stopped, .paused] ∧ (level = false ∨ 3 < r.p)) ∨
        (r.state = .locking ∧ level = false) ∨
        (r.state ∈ [DoorState.locked, .unlocking] ∧ level = true) ∨ level = r.inputs.lockLocked →
      Completes (exec (.lockSwitchChange d level) s) fun t =>
        t = withInput d (fun x => { x with lockLocked := level }) s)

/-- R7, R11, R18, R19, R59, R60, R112, R130. That a doorway keeps the moment at which its drive was
last switched off is log 39, DEDUCED. The reading that comes at the moment of the expiry is log 42,
DEDUCED. The locked reading that comes at the moment of the obstruction is log 41, DEDUCED, and that
the stop precedes the relatching is log 10, DEDUCED. -/
def Obligations.TheLockSwitchFreesLatchesAndTeaches : Prop :=
  ∀ (s : State) (d : Doorway),
    s.powered = true →
    RequestSound s →
    let r := s.door d
    (r.state = .unlocking → r.inputs.lockLocked = true → r.unlockMissedAt = some s.time ∧ r.unlockFailures ≠ 0 →
      Completes (exec (.lockSwitchChange d false) s) fun t =>
        LeftControl s t d .fault (some .lockLost) ∧
          t.rest = (withInput d (fun x => { x with lockLocked := false }) s).rest) ∧
    (r.state = .unlocking → r.inputs.lockLocked = true → r.unlockMissedAt ≠ some s.time ∨ r.unlockFailures = 0 →
      Completes (exec (.lockSwitchChange d false) s) fun t =>
        t.door d =
            { r with
              inputs := { r.inputs with lockLocked := false }, state := .opening, unlockTimer := none,
              unlockFailures := 0, coil := decide (r.p ≤ 3), openShort := false,
              pausePurpose := none, driveOff := r.driveOff.filter fun w => decide (w = s.time)
              stallWatch := some { reference := r.p, deadline := s.time + 300 } } ∧
          (∀ e : Doorway, e ≠ d → t.door e = s.door e) ∧ t.arbiter = s.arbiter) ∧
    (r.state = .locking → r.inputs.lockLocked = false →
      Completes (exec (.lockSwitchChange d true) s) fun t =>
        let x := t.door d
        x.state = .locked ∧ x.k = 0 ∧ x.openAttempts = 0 ∧ x.grant = none ∧ x.lockTimer = none ∧
          x.closeDeadline = none ∧ x.holdDriven = false ∧ x.pendingMotion = none ∧
          x.learnPermit = false ∧ x.peaks = r.peaks ∧ x.marks = r.marks ∧ x.history = r.history ∧
          (r.learnPermit = false → x.refs = r.refs) ∧
          (r.learnPermit = true → r.refs.length = 32 → r.peaks.length = 32 → r.marks.length = 32 →
            ∀ i ∈ List.range 32,
              let old := r.refs.getD i 0
              let peak := r.peaks.getD i 0
              x.refs.getD i 0 =
                if r.marks.getD i false then
                  (if old ≤ peak then old + (peak - old) / 8 else old - (old - peak) / 8)
                else old) ∧
          t.rest = (withInput d (fun x => { x with lockLocked := true }) s).rest) ∧
    (r.state ∈ [DoorState.opened, .stopped, .paused] → r.inputs.lockLocked = false → r.p ≤ 3 →
      Completes (exec (.lockSwitchChange d true) s) fun t =>
        Relatched s t d
            (decide (r.state = .paused ∧ r.pausePurpose = some .openRetry) && r.pauseTimer.isSome) ∧
          t.rest = (withInput d (fun x => { x with lockLocked := true }) s).rest) ∧
    (r.state = .reopening → r.inputs.lockLocked = false → r.p ≤ 3 → r.obstructedAt = some s.time →
      Completes (exec (.lockSwitchChange d true) s) fun t =>
        let x := t.door d
        x.state = .locked ∧ x.k = 0 ∧ x.openAttempts = 0 ∧ x.grant = none ∧ x.pendingMotion = none ∧
          x.coil = false ∧ x.holdDriven = false ∧ x.stallWatch = none ∧ driveCommand x = none ∧
          x.history = r.history ∧ x.refs = r.refs ∧
          t.rest = (withInput d (fun x => { x with lockLocked := true }) s).rest) ∧
    (r.state = .isolated →
      ∀ level ∈ [true, false], Completes (exec (.lockSwitchChange d level) s) fun t =>
        t.doors = (withInput d (fun x => { x with lockLocked := level }) s).doors ∧
          t.arbiter = s.arbiter ∧
          (level ≠ r.inputs.lockLocked → (t.side d.side).proof = proofHolds t d.side))

/-- R12, R134. That a doorway keeps the moment at which its drive was last switched off is log 39,
DEDUCED. That the moment of the expiry is kept is log 42, DEDUCED. -/
def Obligations.AnUnlockThatTimesOutIsTriedTwice : Prop :=
  ∀ (s : State) (d : Doorway),
    s.powered = true →
    RequestSound s →
    (s.door d).state = .unlocking →
    due s.time (s.door d).unlockTimer = true →
    Completes (exec (.unlockTimerExpiry d) s) fun t =>
      let x := t.door d
      t.rest = s.rest ∧
        if (s.door d).unlockFailures = 0 then
          x.unlockFailures = 1 ∧ x.unlockMissedAt = some s.time ∧ x.k = (s.door d).k ∧ x.history = (s.door d).history ∧
            ((x.state = .locked ∧ x.coil = false ∧ x.unlockTimer = none ∧ x.grant = none ∧
                (x.pendingMotion.map fun m => (m.kind, m.cls)) =
                  (if s.arbiter.supply = .healthy ∧ s.zeroSpeed = false then none
                  else some (Motion.toOpen, GrantClass.ordinary))) ∨
              (x.state = .unlocking ∧ x.coil = true ∧ x.pendingMotion = none ∧
                x.grant = some { amount := s.settings.aopen, cls := .ordinary } ∧
                x.unlockTimer = some (after s.time (s.door d).profile.unlockTime)))
        else LeftControl s t d .fault (some .unlockFailed)

/-- R21, R7. -/
def Obligations.APauseEndsInItsRetry : Prop :=
  ∀ (s : State) (d : Doorway),
    s.powered = true →
    RequestSound s →
    (s.door d).state = .paused →
    (s.door d).pendingMotion = none →
    due s.time (s.door d).pauseTimer = true →
    ∀ purpose ∈ (s.door d).pausePurpose,
      Completes (exec (.pauseTimerExpiry d) s) fun t =>
        let r := s.door d
        let retry : Motion × GrantClass × Option Nat :=
          match purpose with
          | .openRetry => (.toOpen, .ordinary, none)
          | .closeRetry =>
            if r.k ≤ r.profile.kmax then (.toClose, .ordinary, none)
            else (.fullReopen, .urgent, some r.profile.lstroke)
        t.rest = s.rest ∧
          if s.arbiter.supply = .lost then
            t = s.modDoor d fun r =>
              { r with pauseTimer := none,
                       pendingMotion :=
                         some { kind := retry.1, cls := retry.2.1, stand := .unposted,
                                target := retry.2.2 } }
          else if s.zeroSpeed = false ∧ retry.1 ≠ .toClose then
            t = s.modDoor d fun r =>
              { r with pauseTimer := none,
                       pendingMotion :=
                         if retry.1 = .toOpen then none
                         else some { kind := retry.1, cls := retry.2.1, stand := .withheld,
                                     target := retry.2.2 } }
          else WaitsOrBegan s t d retry.1 retry.2.1 retry.2.2

/-- R84, R100. -/
def Obligations.ADeferralEndsAndALateRequestIsReported : Prop :=
  ∀ (s : State) (d : Doorway),
    s.powered = true →
    RequestSound s →
    (∀ m ∈ (s.door d).pendingMotion, m.kind = .toClose → m.stand = .deferred →
      due s.time (s.door d).holdDeadline = true →
        Completes (exec (.holdDeadlineExpiry d) s) fun t =>
          (t.door d).platform = { (s.door d).platform with overridden := true } ∧
            (t.door d).holdDeadline = none ∧ t.rest = s.rest ∧
            ((t.door d).pendingMotion.map fun m => m.stand) ≠ some .deferred ∧
            WaitsOrBegan s t d .toClose m.cls none ∧
            (s.arbiter.supply = .lost →
              (t.door d).pendingMotion = some { m with stand := .unposted } ∧
                t.arbiter = s.arbiter)) ∧
    ∀ e ∈ queuedEntry s d, e.lateReported = false → due s.time (some e.lateDeadline) = true →
      Completes (exec (.grantLate d) s) fun t =>
        InBothSets t (fun a => a.grantLate.get d = true) ∧ t.doors = s.doors ∧ t.rest = s.rest ∧
          t.sides = s.sides ∧
          t.arbiter =
            { s.arbiter with
              urgent := s.arbiter.urgent.map fun e =>
                if e.door = d then { e with lateReported := true } else e
              ordinary := s.arbiter.ordinary.map fun e =>
                if e.door = d then { e with lateReported := true } else e }

/-- R89, R90, R148, R142. A CLOSE at a STOPPED or HALTED doorway with nothing pending is log 32,
DESIGN CHOICE; the open-attempt count of a CLOSE without change is log 13, DEDUCED; a CLOSE that
arrives with an obstruction is log 41, DEDUCED. -/
def Obligations.SilenceClosesReleasedSides : Prop :=
  ∀ (s : State),
    s.powered = true →
    RequestSound s →
    (due s.time (silenceDeadline s.carSilence) = true →
      Completes (exec .carSilenceExpiry s) fun t =>
        t.carSilence = .silent ∧ t.ports.service.attention.carSilent = true ∧
          t.ports.car = s.ports.car ∧
          t.silentDwell =
            (if s.settings.silentCloseDelay = 0 then none
            else some (after s.time (s.settings.silentCloseDelay * 1000))) ∧
          t.link = s.link ∧ t.sides = s.sides ∧ CarUntouched s t) ∧
    (due s.time s.silentDwell = true →
      Completes (exec .silentDwellTimerExpiry s) fun t =>
        let closed := fun (d : Doorway) =>
          decide ((s.door d).state = .opened ∨ (s.door d).state = .obstructedOpen) &&
            decide ((s.side d.side).release ≠ .none)
        t.silentDwell = none ∧
          t.demandCounter = s.demandCounter + BitVec.ofNat 16 (Doorway.all.countP closed) ∧
          ∀ d : Doorway,
            if closed d then
              (t.door d).carKind = .silentClose ∧ (t.door d).closeTime = some s.time ∧
                (t.door d).carStamp =
                  s.demandCounter + BitVec.ofNat 16
                    ((Doorway.all.filter fun e => e.number ≤ d.number).countP closed) ∧
                if s.serviceMode then
                  t.door d =
                    { s.door d with
                      carKind := .silentClose, carStamp := (t.door d).carStamp
                      closeTime := some s.time }
                else if s.arbiter.supply = .lost then CloseActed s.time (s.door d) (t.door d)
                else CloseBegins s t d
            else
              (t.door d).carKind = (s.door d).carKind ∧ (t.door d).carStamp = (s.door d).carStamp ∧
                (t.door d).closeTime = (s.door d).closeTime ∧
                (s.serviceMode = true ∨ s.arbiter.supply = .lost → t.door d = s.door d)) ∧
    (Completes (exec (.presence .car) s) fun t =>
      t.carSilence = .notSilent (after s.time s.settings.carSilence) ∧ t.standDown = false ∧
        t.silentDwell = (if s.carSilence = .silent then none else s.silentDwell) ∧
        t.ports.car.context = .idle ∧ t.ports.car.responses = s.ports.car.responses ∧
        t.ports.platform = s.ports.platform ∧ CarUntouched s t) ∧
    Completes (exec (.presence .service) s) (fun t =>
      t.ports.service.lastRefused = some 0x10 ∧ t.ports.service.context = .discarding ∧
        t.carSilence = s.carSilence ∧ t.silentDwell = s.silentDwell ∧ CarUntouched s t)

/-- R114, R115, R116. That a watch of the other kind gives way is log 25, DEDUCED. -/
def Obligations.TheLoopMonitorReportsADisagreementOnce : Prop :=
  ∀ (s : State) (i : Side) (closed : Bool),
    s.powered = true →
    let r := s.side i
    (Completes (exec (.loopReturnChange i closed) s) fun t =>
      t = s.setSide i
        { r with
          loopClosed := closed
          watch :=
            if r.loopClosed = closed ∨ s.standDown = true ∨ r.verdict = .running then r.watch
            else if r.output = closed then .inactive
            else
              match r.output, r.watch with
              | _, .reported => .reported
              | true, .openWatch t => .openWatch t
              | false, .stuckWatch t => .stuckWatch t
              | true, _ => .openWatch (s.time + 50)
              | false, _ => .stuckWatch (s.time + 50) }) ∧
    (due s.time (openWatchDeadline r.watch) = true →
      Completes (exec (.openWatchExpiry i) s) fun t =>
        t.sides =
            (s.setSide i
              { r with watch := .reported, monitorEvents := min 255 (r.monitorEvents + 1) }).sides ∧
          InBothSets t (fun a => a.loopMonitor.get i = some .loopOpen) ∧ t.doors = s.doors ∧
          t.arbiter = s.arbiter ∧ t.link = s.link ∧ t.rest = s.rest) ∧
    (due s.time (stuckWatchDeadline r.watch) = true →
      Completes (exec (.stuckWatchExpiry i) s) fun t =>
        (t.side i).watch ∈ [LoopWatch.reported, .inactive] ∧ (t.side i).verdict = .fail ∧
          (t.side i).monitorEvents = min 255 (r.monitorEvents + 1) ∧ (t.side i).proof = false ∧
          (ProofSound s → r.output = false → (t.side i).watch = .reported ∧ (t.side i).output = r.output) ∧
          InBothSets t (fun a => a.loopMonitor.get i = some .loopStuck) ∧
          (∀ j : Side, j ≠ i → t.side j = s.side j) ∧ t.doors = s.doors ∧
          t.arbiter = s.arbiter ∧ t.link = s.link ∧ t.rest = s.rest)

/-- R117, R118, R119, R120. That a refused LOOP TEST counts the clamp of its parameter is log 34,
DEDUCED. -/
def Obligations.TheLoopTestDrivesItsPattern : Prop :=
  ∀ (s : State) (q : Port) (b : Byte) (i : Side),
    s.powered = true →
    q ≠ .platform →
    let pattern := [true, false, true, false, false, true, false, true, true, true, false, false,
      false, false, true, true]
    (Completes (exec (.loopTest q [b]) s) fun t =>
      let u := arrived q s
      let j := if b = 0 then Side.A else Side.B
      let r := u.side j
      t.doors = u.doors ∧ t.arbiter = u.arbiter ∧ t.settings = u.settings ∧
        (t.port q).context = .idle ∧
        (t.port q).counts.clamped =
          (if 1 < b.toNat then min 255 ((u.port q).counts.clamped + 1)
          else (u.port q).counts.clamped) ∧
        if s.zeroSpeed = true ∧ r.verdict ≠ .running ∧
            ∀ d ∈ j.doorways, (u.door d).state = .locked ∨ (u.door d).state = .isolated then
          t.sides =
              (u.setSide j
                { r with
                  verdict := .running, priorVerdict := some r.verdict, mismatches := 0, step := 0,
                  watch := .inactive, proof := false, output := true,
                  stepDeadline := some (s.time + 20) }).sides ∧
            (r.proof = true → InBothSets t fun a => a.sideProof.get j = true)
        else t.sides = u.sides ∧ (t.port q).lastRefused = some 0x16 ∧
          (t.port q).counts.refused = min 255 ((u.port q).counts.refused + 1)) ∧
    ((s.side i).verdict = .running → due s.time (s.side i).stepDeadline = true →
      (s.side i).step ≤ 15 →
      Completes (exec (.testStepExpiry i) s) fun t =>
        let r := s.side i
        let x := t.side i
        let missed := if r.loopClosed = pattern.getD r.step false then r.mismatches
          else r.mismatches + 1
        t.rest = s.rest ∧ t.doors = s.doors ∧ (∀ j : Side, j ≠ i → t.side j = s.side j) ∧
          x.mismatches = missed ∧
          if r.step < 15 then
            t = s.setSide i
              { r with
                mismatches := missed, step := r.step + 1, output := pattern.getD (r.step + 1) false,
                stepDeadline := some (s.time + 20) }
          else
            x.verdict = (if missed = 0 then .pass else .fail) ∧ x.priorVerdict = none ∧
              x.step = 15 ∧ x.stepDeadline = none ∧ x.proof = proofHolds t i ∧ x.output = x.proof ∧
              InBothSets t (fun a => a.loopTestDone.get i = true) ∧
              (s.standDown = false →
                x.watch =
                  (if x.output = x.loopClosed then .inactive
                  else if x.output then .openWatch (s.time + 50) else .stuckWatch (s.time + 50))))

/-- R83, R160, R162, R164, R165, R166. That the trigger being sent stays at the departure is log 19,
DEDUCED. -/
def Obligations.TheLinkLeavesLockedWithItsRecords : Prop :=
  ∀ (s : State) (mask check : Byte),
    s.powered = true →
    RequestSound s →
    (s.link.lock = .acquiring ∨ s.link.lock = .locked → due s.time s.link.deadline = true →
      Completes (exec .goodFrameDeadlineExpiry s) fun t =>
        InBothSets t (fun a => a.platformLink = some .unlocked) ∧
          if s.link.lock = .locked then LinkDeparted s t
          else
            t.link = { s.link with lock := .unlocked, goodRun := 0, badRun := 0, deadline := none } ∧
              t.sides = s.sides ∧ t.standDown = s.standDown ∧ t.carSilence = s.carSilence ∧
              CarUntouched s t) ∧
    Completes (exec (.linkReset .platform) s) (fun t =>
      let u := arrived .platform s
      if s.link.lock = .quiescent then t = u
      else
        LinkDeparted u t ∧
          (s.link.lock ≠ .unlocked → InBothSets t fun a => a.platformLink = some .unlocked) ∧
          (s.link.lock = .unlocked → LinkSound s → t.ports = u.ports ∧ CarUntouched u t)) ∧
      Completes (exec (.armTriggers .platform [mask, check]) s) (fun t =>
        let u := arrived .platform s
        if s.link.lock = .locked ∧ check = crc [0x51, mask] then
          t = { u with link :=
                { u.link with armedReleased := mask.getLsbD 0, armedProven := mask.getLsbD 1 } }
        else Refused .platform 0x51 u t) ∧
      Completes (exec .triggerSent s) fun t =>
        t = { s with link := { s.link with triggers := s.link.triggers.tail } }

/-- R83, R157, R159, R160, R163, R167, R79. That the trigger being sent stays at the departure is
log 19, DEDUCED. -/
def Obligations.AFrameIsBelievedAfterThreeGoodOnes : Prop :=
  ∀ (s : State) (sd faced panels hold seq check : Byte),
    s.powered = true →
    RequestSound s →
    Completes (exec (.platformStatus .platform [sd, faced, panels, hold, seq, check]) s) fun t =>
      let correct := check = crc [0x50, sd, faced, panels, hold, seq]
      let u := arrived .platform s
      let l := u.link
      let after300 := some (s.time + 300)
      let unlocked := { l with lock := .unlocked, goodRun := 0, badRun := 0, deadline := none }
      if l.lock = .quiescent then t = u
      else
        let w := clampCounted .platform (decide correct && decide (1 < sd.toNat)) u
        t.ports.platform = w.ports.platform ∧ t.standDown = w.standDown ∧
          if correct ∧ l.lastSequence ≠ some seq then
            match l.lock with
            | .unlocked =>
              t.link =
                  { l with
                    lock := .acquiring, goodRun := 1, badRun := 0, deadline := after300,
                    lastSequence := some seq } ∧
                InBothSets t (fun a => a.platformLink = some .acquiring) ∧ CarUntouched w t
            | .acquiring =>
              CarUntouched w t ∧
                if 2 ≤ l.goodRun then
                  t.link =
                      { l with
                        lock := .locked, goodRun := 3, badRun := 0, deadline := after300,
                        lastSequence := some seq } ∧
                    InBothSets t (fun a => a.platformLink = some .locked)
                else
                  t = { w with link :=
                        { l with
                          goodRun := l.goodRun + 1, badRun := 0, deadline := after300,
                          lastSequence := some seq } }
            | .locked =>
              { t.link with triggers := [] } =
                  { l with badRun := 0, deadline := after300, lastSequence := some seq, triggers := [] } ∧
                l.triggers <+: t.link.triggers ∧ t.demandCounter = w.demandCounter ∧
                t.settings = w.settings ∧ t.zeroSpeed = w.zeroSpeed ∧
                ∀ d : Doorway,
                  let n := (d.number - 1) % 4
                  let r := (w.door d).platform
                  let x := (t.door d).platform
                  if d.side = (if sd = 0 then Side.A else .B) then
                    let panel := (panels.toNat / 4 ^ n) % 4
                    let held := hold.getLsbD n || decide (panel = 3)
                    x.faced = faced.getLsbD n ∧
                      x.panel = [PanelState.closed, .opening, .opened, .obstructed].getD panel .closed ∧
                      x.hold = held ∧
                      x.holdSince =
                        (if held then (if r.hold then r.holdSince else some s.time) else none) ∧
                      (held = false → x.overridden = false) ∧
                      (held = false → holdEffective w d = true →
                        ((t.door d).pendingMotion.map fun m => m.stand) ≠ some .deferred ∧
                          ∀ m ∈ (w.door d).pendingMotion, m.kind = .toClose → m.stand = .deferred →
                            DeferralEnded w t d m) ∧
                      (held = true → r.overridden = true → x.overridden = true)
                  else { x with overridden := r.overridden } = r
            | .quiescent => True
          else
            match l.lock with
            | .unlocked => t = { w with link := { l with goodRun := 0, badRun := 0 } }
            | .acquiring =>
              t.link = unlocked ∧ CarUntouched w t ∧
                InBothSets t fun a => a.platformLink = some .unlocked
            | .locked =>
              if l.badRun < 3 then t = { w with link := { l with badRun := l.badRun + 1, goodRun := 0 } }
              else LinkDeparted w t ∧ InBothSets t fun a => a.platformLink = some .unlocked
            | .quiescent => True

/-- R79, R82, R83, R27. The order of the frame's records and of its rising holds is log 24,
DEDUCED. -/
def Obligations.ARisingHoldDefersOrReverses : Prop :=
  ∀ (s : State) (d : Doorway) (sd faced panels hold seq : Byte),
    s.powered = true →
    RequestSound s →
    s.zeroSpeed = true →
    s.link.lock = .locked →
    s.link.lastSequence ≠ some seq →
    d.side = (if sd = 0 then Side.A else Side.B) →
    (s.door d).platform.hold = false →
    (s.door d).platform.overridden = false →
    hold.getLsbD ((d.number - 1) % 4) = true ∨
      (panels.toNat / 4 ^ ((d.number - 1) % 4)) % 4 = 3 →
    Completes (exec (.platformStatus .platform
        [sd, faced, panels, hold, seq, crc [0x50, sd, faced, panels, hold, seq]]) s) fun t =>
      let r := s.door d
      let x := t.door d
      let since := (r.closeTime.or (r.attempt.map fun a => a.start)).getD s.time
      x.platform.hold = true ∧
        (r.state = .closing → r.profile.pz ≤ r.p → 3 < r.p →
          r.p < r.profile.lstroke → (r.grant.map fun g => g.cls) = some .ordinary →
          x.k = r.k ∧ x.history = r.history ∧ x.lastCause = r.lastCause ∧
            if (s.time - since).toNat < s.settings.holdLimit then
              x.holdDriven = true ∧ x.platform.overridden = false ∧
                WaitsOrBegan s t d .fullReopen .urgent (some r.profile.lstroke)
            else
              x.platform.overridden = true ∧ x.state = .closing ∧ x.grant = r.grant ∧
                x.attempt = r.attempt) ∧
        (x.platform.overridden = false →
          ∀ m ∈ x.pendingMotion, m.kind = .toClose → m.cls = .ordinary →
            m.stand ≠ .queued ∧ m.stand ≠ .waitListed ∧
              (m.stand = .deferred →
                ((r.pendingMotion.map fun m => m.stand) ≠ some .deferred) →
                x.holdDeadline = some (match r.closeTime with
                  | some c => c + BitVec.ofNat 32 s.settings.holdLimit
                  | none => s.time + BitVec.ofNat 32 s.settings.holdLimit)))

/-- R140, R141, R142, R143, R145, R149. That a command's bytes are a row of a link, and a parameter
byte that comes later the row STRAY_PARAMETER_BYTE, is log 5, DESIGN CHOICE; the head that
RESPONSE_SENT removes is log 19, DEDUCED. -/
def Obligations.TheReceiveContextFollowsTheBytes : Prop :=
  ∀ (s : State) (q : Port) (code b : Byte) (c e : Instr),
    s.powered = true →
    let counted := fun (u : State) (x : Context) (f : StatusCounts → StatusCounts) =>
      u.modPort q fun r =>
        { r with
          context := x
          counts := f r.counts
          attention := if q = .platform then r.attention else { r.attention with command := true } }
    (code ∉ [0x10#8, 0x11, 0x12, 0x13, 0x14, 0x15, 0x16, 0x17, 0x18, 0x20, 0x21, 0x22, 0x23, 0x30,
        0x31, 0x32, 0x33, 0x34, 0x35, 0x36, 0x37, 0x38, 0x39, 0x3A, 0x3B, 0x3C, 0x50, 0x51, 0x5F] →
      Completes (exec (.unknownCommand q code) s) fun t =>
        t = counted (arrived q s) .discarding fun n => { n with unknown := min 255 (n.unknown + 1) }) ∧
    (∀ x ∈ c.linkCommand, x.2.1.allowedOn x.1 = false →
      Completes (exec c s) fun t =>
        Refused x.1 x.2.1.code
          ((arrived x.1 s).modPort x.1 fun r => { r with context := .discarding }) t) ∧
    Completes (exec (.strayParameterByte q b) s) (fun t =>
      match (s.port q).context with
      | .idle => t = counted s .idle fun n => { n with stray := min 255 (n.stray + 1) }
      | .discarding => t = s
      | .collecting k ps =>
        let whole := decide (k.paramCount ≤ ps.length + 1)
        let context := if whole then .idle else .collecting k (ps ++ [b])
        let endsField :=
          if k = .writeProfile then decide (2 ≤ ps.length ∧ ps.length % 2 = 0)
          else decide (ps.length % 2 = 1)
        (t.port q).context = context ∧
          if k ∉ [Command.setAllowance, .writeProfile, .writeCarSettings] then
            t =
              if whole then
                handCommand q k (ps ++ [b]) (s.modPort q fun r => { r with context := .idle })
              else s.modPort q fun r => { r with context := context }
          else if endsField then
            t =
              (applyArrived q k (ps ++ [b])
                (s.modPort q fun r => { r with context := .collecting k (ps ++ [b]) })).modPort q
                fun r => { r with context := context }
          else t = s.modPort q fun r => { r with context := context }) ∧
      (∀ x ∈ c.linkCommand, e.linkCommand = some (x.1, x.2.1, x.2.2 ++ [b]) →
        Completes (exec c s) fun u => exec (.strayParameterByte x.1 b) u = exec e s) ∧
      (∀ x ∈ [Instr.lineBreak q, .damagedByte q],
        Completes (exec x s) fun t =>
          match (s.port q).context with
          | .collecting _ _ =>
            t = counted s .idle fun n => { n with truncated := min 255 (n.truncated + 1) }
          | .idle | .discarding => t = s.modPort q fun r => { r with context := .idle }) ∧
      Completes (exec (.responseSent q) s) fun t =>
        t = s.modPort q fun r => { r with responses := r.responses.tail }

/-- R72, R165, R70. That a refused SIDE RELEASE counts the clamps of its parameters is log 34,
DEDUCED. -/
def Obligations.ASideIsReleasedAtZeroSpeed : Prop :=
  ∀ (s : State) (a b : Byte),
    s.powered = true →
    Completes (exec (.sideRelease .car [a, b]) s) fun t =>
      let w := clampCounted .car (decide (b = 0 ∨ 2 < b.toNat))
        (clampCounted .car (decide (1 < a.toNat)) (arrived .car s))
      let i := if a = 0 then Side.A else .B
      if s.zeroSpeed then
        t = { w.setSide i
                { w.side i with
                  release := if 2 ≤ b.toNat then .unscreened else .screened
                  releaseStamp := w.demandCounter + 1 } with
              demandCounter := w.demandCounter + 1
              link :=
                { w.link with triggers :=
                    if (w.side i).release = .none ∧ w.link.armedReleased = true ∧
                        (⟨.sideReleased, i⟩ : Trigger) ∉ w.link.triggers then
                      w.link.triggers ++ [⟨.sideReleased, i⟩]
                    else w.link.triggers } }
      else Refused .car 0x11 w t

/-- R73, with the clamp of R72 and R144, the command byte and its parameter as R140, R148 and R176
receive them, and the order of the gates in R74. That the row is its command byte followed by its
parameter byte, and that the row with no parameter leaves the port COLLECTING, is the model's choice
(log 5, DESIGN CHOICE); that the bytes received are receptions, each a row, is the model's choice
too (log 26, DESIGN CHOICE). -/
def Obligations.AWithdrawalTakesTheReleaseAway : Prop :=
  ∀ (s : State) (a : Byte),
    s.powered = true →
    let u := arrived .car s
    let i := if a = 0 then Side.A else .B
    exec (.withdrawRelease .car [a]) s =
        .next (receive .car (.parameterByte a) (receive .car (.commandByte 0x12) s)) ∧
      Completes (exec (.withdrawRelease .car []) s) (fun t =>
        t = u.modPort .car fun r => { r with context := .collecting .withdrawRelease [] }) ∧
      Completes (exec (.withdrawRelease .car [a]) s) fun t =>
        let w := clampCounted .car (decide (1 < a.toNat)) u
        t = { w.setSide i { w.side i with release := .none, releaseStamp := w.demandCounter + 1 } with
              demandCounter := w.demandCounter + 1 } ∧
          t.doors = s.doors ∧ t.arbiter = s.arbiter ∧
          ∀ d ∈ i.doorways, failedGate t d = some (if s.zeroSpeed then .release else .zeroSpeed)

/-- R74, R75, R24, R71, R9, R10. The relatching of a stop in the lock window is log 10, DEDUCED; the
opening that ends at once in HALTED is log 35, DEDUCED; that a LOCAL OPEN with service mode off is
refused and counted whatever its mask selects is log 38, DEDUCED. -/
def Obligations.AnOpenPassesItsGatesOrIsRefused : Prop :=
  ∀ (s : State) (mask : Byte),
    s.powered = true →
    RequestSound s →
    SettingsSound s →
    Completes (exec (.carOpen .car [mask]) s) (fun t =>
      let u := arrived .car s
      let passes := fun (d : Doorway) => withinReach u mask d && decide (refusingGate u d = none)
      t.serviceMode = u.serviceMode ∧ t.zeroSpeed = u.zeroSpeed ∧ t.link.lock = u.link.lock ∧
        t.demandCounter = u.demandCounter + BitVec.ofNat 16 (Doorway.all.countP passes) ∧
        t.ports.car.counts = u.ports.car.counts ∧
        ∀ d : Doorway,
          let r := u.door d
          let x := t.door d
          x.serviceKind = r.serviceKind ∧ x.closeTime = r.closeTime ∧
            (t.side d.side).release = (u.side d.side).release ∧
            if passes d then
              x.carKind = .openDemand ∧ x.carStamp = rankStamp u passes d ∧
                if u.serviceMode then
                  x = { r with carKind := .openDemand, carStamp := rankStamp u passes d }
                else if u.arbiter.supply = .lost then OpenActed r x
                else OpenBegins u t d
            else
              x.carKind = r.carKind ∧ x.carStamp = r.carStamp ∧
                (u.serviceMode = true ∨ u.arbiter.supply = .lost → x = r) ∧
                (withinReach u mask d = true → ∀ g ∈ refusingGate u d,
                  InBothSets t fun a => a.openRefused.get d = some g)) ∧
      Completes (exec (.localOpen .service [mask]) s) fun t =>
        let u := arrived .service s
        if u.serviceMode = true then
          t.demandCounter = u.demandCounter + BitVec.ofNat 16 (Doorway.all.countP (withinReach u mask)) ∧
            ∀ d : Doorway,
              let r := u.door d
              let x := t.door d
              x.carKind = r.carKind ∧ x.carStamp = r.carStamp ∧ x.closeTime = r.closeTime ∧
                if withinReach u mask d then
                  x.serviceKind = .localOpen ∧ x.serviceStamp = rankStamp u (withinReach u mask) d ∧
                    if u.arbiter.supply = .lost then OpenActed r x
                    else u.zeroSpeed = true → OpenBegins u t d
                else
                  x.serviceKind = r.serviceKind ∧ x.serviceStamp = r.serviceStamp ∧
                    (u.arbiter.supply = .lost → x = r)
        else Refused .service 0x31 u t

/-- R76, R77, R75, R25, R71, R9, R10. A CLOSE at a STOPPED or HALTED doorway with nothing pending is
log 32, DESIGN CHOICE; the relatching of a stop in the lock window is log 10, DEDUCED; the open-
attempt count of a CLOSE without change is log 13, DEDUCED; that a LOCAL CLOSE with service mode off
is refused and counted whatever its mask selects is log 38, DEDUCED. That a CLOSE arriving with an
obstruction has no effect on the doorway obstructed is log 41, DEDUCED. -/
def Obligations.ACloseIsRecordedAndActs : Prop :=
  ∀ (s : State) (mask : Byte),
    s.powered = true →
    RequestSound s →
    let acts := fun (u t : State) (d : Doorway) (r : Door) =>
      if u.arbiter.supply = .lost then CloseActed u.time r (t.door d)
      else CloseBegins u t d
    let records := fun (u t : State) (kind : CarKind) =>
      t.demandCounter = u.demandCounter + BitVec.ofNat 16 (Doorway.all.countP (withinReach u mask)) ∧
        t.ports.car.counts = u.ports.car.counts ∧ t.link.lock = u.link.lock ∧
        ∀ d : Doorway,
          let r := u.door d
          let x := t.door d
          x.serviceKind = r.serviceKind ∧ x.serviceStamp = r.serviceStamp ∧
            if withinReach u mask d then
              x.carKind = kind ∧ x.carStamp = rankStamp u (withinReach u mask) d ∧
                x.closeTime = some s.time ∧
                (u.serviceMode = true →
                  x = { r with
                        carKind := kind, carStamp := rankStamp u (withinReach u mask) d
                        closeTime := some s.time })
            else
              x.carKind = r.carKind ∧ x.carStamp = r.carStamp ∧ x.closeTime = r.closeTime ∧
                (u.serviceMode = true ∨ u.arbiter.supply = .lost → x = r)
    Completes (exec (.carClose .car [mask]) s) (fun t =>
      let u := arrived .car s
      records u t .closeDemand ∧
        (u.serviceMode = false → ∀ d : Doorway, withinReach u mask d = true → acts u t d (u.door d))) ∧
      Completes (exec (.forcedClose .car [mask]) s) (fun t =>
        let u := arrived .car s
        records u t .forcedClose ∧
          (u.serviceMode = false → ∀ d : Doorway, withinReach u mask d = true →
            let r := u.door d
            let ends := decide (u.link.lock = .locked) &&
              decide ((r.pendingMotion.map fun m => m.stand) = some .deferred)
            (t.door d).platform.overridden =
                (decide (u.link.lock = .locked) || r.platform.overridden) ∧
              (u.link.lock = .locked →
                ((t.door d).pendingMotion.map fun m => m.stand) ≠ some .deferred) ∧
              (ends = true → u.arbiter.supply = .healthy →
                (r.pendingMotion.map fun m => (m.kind, m.cls)) = some (.toClose, .ordinary) →
                  WaitsOrBegan u t d .toClose .ordinary none) ∧
              acts u t d
                { r with pendingMotion := r.pendingMotion.map fun m =>
                    if ends then { m with stand := .unposted } else m })) ∧
      Completes (exec (.localClose .service [mask]) s) fun t =>
        let u := arrived .service s
        if u.serviceMode = true then
          t.demandCounter = u.demandCounter + BitVec.ofNat 16 (Doorway.all.countP (withinReach u mask)) ∧
            ∀ d : Doorway,
              let r := u.door d
              let x := t.door d
              x.carKind = r.carKind ∧ x.carStamp = r.carStamp ∧
                if withinReach u mask d then
                  x.serviceKind = .localClose ∧ x.serviceStamp = rankStamp u (withinReach u mask) d ∧
                    x.closeTime = some s.time ∧ acts u t d r
                else
                  x.serviceKind = r.serviceKind ∧ x.serviceStamp = r.serviceStamp ∧
                    x.closeTime = r.closeTime ∧ (u.arbiter.supply = .lost → x = r)
        else Refused .service 0x32 u t

/-- R78, R24, R25, R77, R9, R10. A CLOSE at a STOPPED or HALTED doorway with nothing pending is log
32, DESIGN CHOICE; the relatching of a stop in the lock window is log 10, DEDUCED; the open-attempt
count of a CLOSE without change is log 13, DEDUCED; the opening that ends at once in HALTED is log
35, DEDUCED. A CLOSE that arrives with an obstruction is log 41, DEDUCED; that a refused SERVICE
MODE counts the clamp of its parameter is log 34, DEDUCED. -/
def Obligations.ServiceModeEndsWithAnEvaluation : Prop :=
  ∀ (s : State) (b : Byte),
    s.powered = true →
    RequestSound s →
    SettingsSound s →
    Completes (exec (.serviceMode .service [b]) s) fun t =>
      let w := clampCounted .service (decide (1 < b.toNat)) (arrived .service s)
      if b ≠ 0 then
        if w.serviceMode = true then t = w
        else if w.zeroSpeed = true then t = { w with serviceMode := true }
        else Refused .service 0x30 w t
      else if w.serviceMode = false then t = w
      else
        t.serviceMode = false ∧ t.demandCounter = w.demandCounter ∧ t.zeroSpeed = w.zeroSpeed ∧
          t.settings = w.settings ∧ t.ports.service.counts = w.ports.service.counts ∧
          ∀ d : Doorway,
            let r := w.door d
            let x := t.door d
            let age := (r.serviceStamp - r.carStamp).toNat
            x.closeTime = r.closeTime ∧ x.serviceKind = r.serviceKind ∧
              x.serviceStamp = r.serviceStamp ∧
              if r.state ∈ [DoorState.emergency, .isolated, .fault] ∨ r.carKind = .none ∨
                  (r.serviceKind ≠ .none ∧ 1 ≤ age ∧ age ≤ 32767) then
                x.carKind = r.carKind ∧ x.carStamp = r.carStamp ∧
                  (w.arbiter.supply = .lost → x = r)
              else if r.carKind = .openDemand ∧ refusingGate w d ≠ none then
                x.carKind = .none ∧ x.carStamp = 0 ∧
                  InBothSets t (fun a => a.openRefused.get d = refusingGate w d) ∧
                  (w.arbiter.supply = .lost → x = { r with carKind := .none, carStamp := 0 })
              else
                x.carKind = r.carKind ∧ x.carStamp = r.carStamp ∧
                  (r.carKind = .forcedClose → w.link.lock = .locked → x.platform.overridden = true) ∧
                  (w.arbiter.supply = .healthy →
                    if r.carKind = .openDemand then OpenBegins w t d
                    else
                      CloseBegins w t d ∧
                        (r.carKind = .forcedClose → w.link.lock = .locked →
                          (r.pendingMotion.map fun m => (m.kind, m.cls, m.stand)) =
                              some (.toClose, .ordinary, .deferred) →
                            WaitsOrBegan w t d .toClose .ordinary none)) ∧
                  (w.arbiter.supply = .lost →
                    if r.carKind = .openDemand then OpenActed r x
                    else
                      CloseActed w.time
                        { r with pendingMotion := r.pendingMotion.map fun m =>
                            if r.carKind = .forcedClose ∧ w.link.lock = .locked ∧
                                m.stand = .deferred then
                              { m with stand := .unposted }
                            else m } x)

/-- R149, R150, R152, R153, R154, R180. -/
def Obligations.AReadOfTheCarIsAnsweredWhole : Prop :=
  ∀ (s : State) (q : Port) (mask : Byte),
    s.powered = true →
    q ≠ .platform →
    let u := arrived q s
    let pushed := fun (code : Byte) (body : List Byte) =>
      u.modPort q fun r => { r with responses := r.responses ++ [⟨code, body⟩] }
    let sixteen := fun (n : Nat) => [BitVec.ofNat 8 (n / 256), BitVec.ofNat 8 n]
    Completes (exec (.readDoorway q [mask]) s) (fun t =>
      if 2 ≤ (u.port q).responses.length then Refused q 0x20 u t
      else
        let body := readDoorwayBody u mask
        t = pushed 0x20 body ∧
          (mask = 0 → body = List.replicate 144 0) ∧
          ∀ d : Doorway, mask.getLsbD (d.number - 1) = true →
            (∀ e : Doorway, d.number < e.number → mask.getLsbD (e.number - 1) = false) →
            (SettingsSound s → body.length = 144) ∧
              body.take 4 =
                  [BitVec.ofNat 8 d.number, BitVec.ofNat 8 (u.door d).state.code] ++
                    sixteen (u.door d).p ∧
              (SettingsSound s → LaidOut body (doorwayLayout u d))) ∧
      Completes (exec (.readCarSummary q) s) (fun t =>
        if 2 ≤ (u.port q).responses.length then Refused q 0x21 u t
        else
          let body := carSummaryBody u
          t = pushed 0x21 body ∧ body.length = 45 ∧ LaidOut body (summaryLayout u) ∧
            (body.drop 7).take 6 =
              sixteen u.demandCounter.toNat ++ sixteen u.arbiter.active.allowance ++
                sixteen u.arbiter.active.reserve ∧
            (body.drop 17).take 7 =
              sixteen u.arbiter.heldTotal ++ sixteen u.arbiter.heldOrdinary ++
                [BitVec.ofNat 8 u.arbiter.urgent.length, BitVec.ofNat 8 u.arbiter.ordinary.length,
                 BitVec.ofNat 8 u.arbiter.waiting.length] ∧
            body.getD 36 0 = BitVec.ofNat 8 u.link.lock.code ∧
            body.getD 37 0 = BitVec.ofNat 8 u.lastStart.code) ∧
      Completes (exec (.readAttention q) s) fun t =>
        if 2 ≤ (u.port q).responses.length then Refused q 0x22 u t
        else
          let r := u.port q
          let body := attentionBody r
          let n := (attentionEntries r.attention).length
          t = (pushed 0x22 body).modPort q (fun r =>
                { r with attention := .empty, counts := .zero, lastRefused := none }) ∧
            body.length = 8 + 3 * n ∧ n ≤ 44 ∧ (r.attention = .empty ↔ n = 0) ∧
            n = (attentionLayout r.attention).length ∧
            body.drop 8 = (attentionLayout r.attention).flatten ∧
            body.take 8 =
              [BitVec.ofNat 8 n, BitVec.ofNat 8 r.counts.refused, BitVec.ofNat 8 r.counts.truncated,
               BitVec.ofNat 8 r.counts.clamped, BitVec.ofNat 8 r.counts.unknown,
               BitVec.ofNat 8 r.counts.stray, BitVec.ofNat 8 r.counts.void,
               r.lastRefused.getD 0] ∧
            attentionLine t q = false

/-- R53, R67, R149, R151. That a refused read counts no clamp is log 34, DEDUCED. -/
def Obligations.AReadOfADoorwayIsAnsweredInItsLayout : Prop :=
  ∀ (s : State) (q : Port) (a : Byte),
    s.powered = true →
    q ≠ .platform →
    let pushed := fun (q : Port) (w : State) (code : Byte) (body : List Byte) =>
      w.modPort q fun r => { r with responses := r.responses ++ [⟨code, body⟩] }
    let sixteen := fun (n : Nat) => [BitVec.ofNat 8 (n / 256), BitVec.ofNat 8 n]
    let d := doorwayOf a.toNat
    Completes (exec (.readHistory q [a]) s) (fun t =>
      let u := arrived q s
      if 2 ≤ (u.port q).responses.length then Refused q 0x23 u t
      else
        let w := clampCounted q (decide (a = 0 ∨ 8 < a.toNat)) u
        let r := u.door d
        let body := historyBody u d
        t = pushed q w 0x23 body ∧ body.length = 3 + 17 * r.history.length ∧
          body.take 3 =
            [BitVec.ofNat 8 d.number, BitVec.ofNat 8 r.overflow, BitVec.ofNat 8 r.history.length] ∧
          ∀ x ∈ r.history.zipIdx, LaidOut (body.drop (3 + 17 * x.2)) (historyLayout x.1)) ∧
      Completes (exec (.readProfile .service [a]) s) (fun t =>
        let u := arrived .service s
        if 2 ≤ u.ports.service.responses.length then Refused .service 0x35 u t
        else
          let w := clampCounted .service (decide (a = 0 ∨ 8 < a.toNat)) u
          let r := (u.door d).profile
          let body := profileBody u d
          t = pushed .service w 0x35 body ∧ body.length = 53 ∧ LaidOut body (profileLayout d r) ∧
            body.getD 0 0 = BitVec.ofNat 8 d.number ∧ (body.drop 1).take 2 = sixteen r.lstroke ∧
            (body.drop 47).take 6 =
              sixteen r.rinit ++ sixteen (if r.learnEnable then 1 else 0) ++ sixteen (kineticCap r)) ∧
      Completes (exec (.readReferences .service [a]) s) fun t =>
        let u := arrived .service s
        if 2 ≤ u.ports.service.responses.length then Refused .service 0x37 u t
        else
          let w := clampCounted .service (decide (a = 0 ∨ 32 < a.toNat)) u
          let n := max 1 (min 32 a.toNat)
          let place := 32 * (u.cursor.door.number - 1) + u.cursor.segment
          let body := referencesBody u n
          t = { pushed .service w 0x37 body with
                cursor :=
                  { door := doorwayOf ((place + n) % 256 / 32 + 1), segment := (place + n) % 32 } } ∧
            body.length = 3 + 2 * n ∧
            body.take 3 =
              [BitVec.ofNat 8 u.cursor.door.number, BitVec.ofNat 8 u.cursor.segment,
               BitVec.ofNat 8 n] ∧
            ∀ i ∈ List.range n,
              (body.drop (3 + 2 * i)).take 2 =
                sixteen
                  ((u.door (doorwayOf ((place + i) % 256 / 32 + 1))).refs.getD ((place + i) % 32) 0)

/-- R145, R146, R143, R169, R64, R170, R28. The cap kept for the motion under way is log 17,
DEDUCED. That a row carries any number of the command's bytes is log 5, DESIGN CHOICE. -/
def Obligations.AProfileWriteLeavesEveryFieldInItsRange : Prop :=
  ∀ (s : State) (ps : List Byte),
    s.powered = true →
    ps.length ≤ 51 →
    Completes (exec (.writeProfile .service ps) s) fun t =>
      let u := arrived .service s
      let n := (ps.length - 1) / 2
      let ranges := [(400, 900), (20, 120), (1, 64), (80, 1000), (80, 1000), (40, 300), (50, 300),
        (1000, 20000), (20, 200), (0, 4095), (1, 255), (10, 400), (10, 400), (100, 600), (100, 800),
        (1, 15), (0, 65535), (50, 65535), (200, 5000), (0, 7), (100, 2000), (100, 2000),
        (2000, 15000), (0, 1023), (0, 1)]
      let sent := fun (i : Nat) =>
        (ps.getD (2 * i - 1) 0).toNat * 256 + (ps.getD (2 * i) 0).toNat
      let bound := fun (r : Profile) (i : Nat) =>
        if i = 2 then r.lstroke / 2 else if i = 7 then r.vclose else if i = 17 then r.pz
        else if i = 18 then r.lstroke else 65535
      let chosen := fun (d : Doorway) => (ps.getD 0 0).getLsbD (d.number - 1)
      let latched := fun (d : Doorway) => decide ((u.door d).state = .locked)
      let applied := fun (d : Doorway) (i : Nat) => latched d || decide (3 < i)
      let stands := fun (d : Doorway) (r x : Profile) (i : Nat) =>
        let strokeWritten := latched d && decide (1 ≤ n)
        if i = 2 ∧ strokeWritten = true then min r.pz (x.lstroke / 2)
        else if i = 17 ∧ strokeWritten = true then
          min (min r.edgeMute (min r.pz (x.lstroke / 2))) x.pz
        else if i = 18 ∧ strokeWritten = true then min r.dro x.lstroke
        else if i = 7 ∧ 5 ≤ n then min r.vfloor x.vclose
        else profileField r i
      let fields := (List.range 25).map fun i => i + 1
      let skipped := min 3 n * Doorway.all.countP fun d => chosen d && !latched d
      let clamps := (Doorway.all.filter chosen).map fun d =>
        (fields.take n).countP fun i =>
          applied d i && decide (profileField (t.door d).profile i ≠ sent i)
      t = { u with doors := t.doors
                   ports := { u.ports with service := t.ports.service } } ∧
        t.ports.service =
          { u.ports.service with
            context := if ps.length = 51 then .idle else .collecting .writeProfile ps
            counts := t.ports.service.counts, attention := t.ports.service.attention
            lastRefused :=
              if skipped = 0 then u.ports.service.lastRefused else some 0x33 } ∧
        t.ports.service.counts =
          { u.ports.service.counts with
            refused :=
              if skipped = 0 then u.ports.service.counts.refused
              else min 255 (u.ports.service.counts.refused + skipped)
            clamped :=
              if clamps.sum = 0 then u.ports.service.counts.clamped
              else min 255 (u.ports.service.counts.clamped + clamps.sum) } ∧
        t.ports.service.attention =
          { u.ports.service.attention with
            command := u.ports.service.attention.command || decide (skipped + clamps.sum ≠ 0) } ∧
        (∀ d : Doorway,
          let r := u.door d
          let x := t.door d
          if chosen d then
            (∀ i ∈ fields,
              profileField x.profile i =
                if i ≤ n ∧ applied d i = true then
                  min (max (ranges.getD (i - 1) (0, 0)).1
                      (min (ranges.getD (i - 1) (0, 0)).2 (sent i))) (bound x.profile i)
                else stands d r.profile x.profile i) ∧
              x = { r with
                    profile := x.profile
                    refs :=
                      if latched d = true ∧ 1 ≤ n ∧ (x.profile.lstroke ≠ r.profile.lstroke ∨
                          x.profile.pz ≠ min r.profile.pz (x.profile.lstroke / 2)) then
                        List.replicate 32 r.profile.rinit
                      else r.refs
                    rescaled :=
                      r.rescaled || decide (x.profile.countsPerMm ≠ r.profile.countsPerMm)
                    motionCap :=
                      if n < 8 then r.motionCap
                      else
                        min (min r.motionCap (kineticCap { r.profile with elim := x.profile.elim }))
                          (kineticCap x.profile) }
          else x = r) ∧
        (ps.length < 51 →
          ∀ x ∈ [Instr.lineBreak .service, .damagedByte .service, .readCarSummary .service],
            Completes (exec x t) fun v =>
              v.doors = t.doors ∧ v.ports.service.context = .idle ∧
                v.ports.service.counts.truncated = min 255 (t.ports.service.counts.truncated + 1))

/-- R102, R103, R143, R145, R168. That a row carries any number of the command's bytes is log 5,
DESIGN CHOICE. -/
def Obligations.TheAllowanceIsWrittenAsAPair : Prop :=
  ∀ (s : State) (q : Port) (ps : List Byte),
    s.powered = true →
    q ≠ .platform →
    ps.length ≤ 18 →
    let sent := fun (i : Nat) => (ps.getD (2 * i - 2) 0).toNat * 256 + (ps.getD (2 * i - 1) 0).toNat
    let range := fun (lo hi i : Nat) => max lo (min hi (sent i))
    let written := fun (u : State) (n : Nat) =>
      let c := u.settings
      let taken := fun (i value old : Nat) => if i ≤ n then value else old
      let allowance := taken 1 (range 20 600 1) c.allowance
      ({ allowance := allowance
         reserve :=
           if n = 0 then c.reserve
           else min (taken 2 (sent 2) (writtenPair u.arbiter).reserve) allowance
         aopen := taken 3 (range 5 200 3) c.aopen, aclose := taken 4 (range 5 200 4) c.aclose
         areopen := taken 5 (range 5 200 5) c.areopen
         grantLate := taken 6 (range 500 10000 6) c.grantLate
         holdLimit := taken 7 (range 0 30000 7) c.holdLimit
         carSilence := taken 8 (range 200 5000 8) c.carSilence
         silentCloseDelay :=
           taken 9 (if sent 9 = 0 then 0 else range 10 300 9) c.silentCloseDelay } : CarSettings)
    let applied := fun (q : Port) (command : Command) (whole : Nat) (got : List Byte) (t : State) =>
      let u := arrived q s
      let n := got.length / 2
      let x := written u n
      let clamps :=
        (([x.allowance, x.reserve, x.aopen, x.aclose, x.areopen, x.grantLate, x.holdLimit,
            x.carSilence, x.silentCloseDelay].take n).zipIdx 1).countP
          fun v => decide (v.1 ≠ sent v.2)
      let w := u.modPort q fun r =>
        { r with
          context := if got.length = whole then .idle else .collecting command got
          counts := { r.counts with
            clamped :=
              if clamps = 0 then r.counts.clamped else min 255 (r.counts.clamped + clamps) }
          attention :=
            if clamps = 0 then r.attention else { r.attention with command := true } }
      t.settings = x ∧
        (if n = 0 then t = w
        else
          writtenPair t.arbiter = { allowance := x.allowance, reserve := x.reserve } ∧
            ∀ pr ∈ t.arbiter.pair,
              ¬(t.arbiter.heldTotal ≤ pr.allowance ∧
                t.arbiter.heldOrdinary ≤ pr.allowance - pr.reserve)) ∧
        t.rest = { w.rest with settings := x } ∧ t.arbiter.supply = u.arbiter.supply ∧
        t.ports.platform = u.ports.platform ∧
        (∀ p : Port,
          let a := (t.port p).attention
          a =
            { (w.port p).attention with
              state := a.state, obstruction := a.obstruction, sideProof := a.sideProof,
              loopTestDone := a.loopTestDone, grantLate := a.grantLate }) ∧
        (got.length < whole →
          ∀ x ∈ [Instr.lineBreak q, .damagedByte q, .readCarSummary q],
            Completes (exec x t) fun v =>
              v.settings = t.settings ∧ v.arbiter = t.arbiter ∧ v.doors = t.doors ∧
                (v.port q).context = .idle ∧
                (v.port q).counts.truncated = min 255 ((t.port q).counts.truncated + 1))
    Completes (exec (.setAllowance q (ps.take 4)) s) (applied q .setAllowance 4 (ps.take 4)) ∧
      Completes (exec (.writeCarSettings .service ps) s) (applied .service .writeCarSettings 18 ps)

/-- R53, R63, R66, R151. -/
def Obligations.TheCursorTheTableAndTheHistoriesAreWritten : Prop :=
  ∀ (s : State) (a b : Byte),
    s.powered = true →
    let u := arrived .service s
    Completes (exec (.setCursor .service [a, b]) s) (fun t =>
      let w := clampCounted .service (decide (31 < b.toNat))
        (clampCounted .service (decide (a = 0 ∨ 8 < a.toNat)) u)
      t = { w with cursor := t.cursor } ∧ t.cursor.door.number = max 1 (min 8 a.toNat) ∧
        t.cursor.segment = min 31 b.toNat) ∧
      Completes (exec (.resetReferences .service [a]) s) (fun t =>
        t = { u with doors := t.doors } ∧
          ∀ d : Doorway,
            t.door d =
              if a.getLsbD (d.number - 1) then
                { u.door d with
                  refs := List.replicate 32 (u.door d).profile.rinit, learnPermit := false }
              else u.door d) ∧
      Completes (exec (.clearHistory .service [a]) s) fun t =>
        t = { u with doors := t.doors } ∧
          ∀ d : Doorway,
            t.door d =
              if a.getLsbD (d.number - 1) then { u.door d with history := [], overflow := 0 }
              else u.door d
end

