-- ==== Sys2Proof/Laws/State.lean ====
section
/-! SUPPORT. The updates of the state: what each changes, and one lemma for every field it keeps. -/

namespace Sys2Proof

/-! ### One value per doorway, one per side -/

@[simp] theorem PerDoorway.get_set_same {α : Type} (v : PerDoorway α) (d : Doorway) (x : α) :
    (v.set d x).get d = x := by cases d <;> rfl

theorem PerDoorway.get_set_other {α : Type} (v : PerDoorway α) {d e : Doorway} (x : α) (h : e ≠ d) :
    (v.set d x).get e = v.get e := by cases d <;> cases e <;> first | rfl | exact absurd rfl h

theorem PerDoorway.get_set {α : Type} (v : PerDoorway α) (d e : Doorway) (x : α) :
    (v.set d x).get e = if e = d then x else v.get e := by cases d <;> cases e <;> rfl

@[simp] theorem PerDoorway.get_const {α : Type} (x : α) (d : Doorway) :
    (PerDoorway.const x).get d = x := by cases d <;> rfl

theorem PerDoorway.ext_get {α : Type} {v w : PerDoorway α} (h : ∀ d, v.get d = w.get d) : v = w := by
  have h1 := h .D1; have h2 := h .D2; have h3 := h .D3; have h4 := h .D4
  have h5 := h .D5; have h6 := h .D6; have h7 := h .D7; have h8 := h .D8
  cases v; cases w; simp_all [PerDoorway.get]

@[simp] theorem PerSide.get_set_same {α : Type} (v : PerSide α) (i : Side) (x : α) :
    (v.set i x).get i = x := by cases i <;> rfl

theorem PerSide.get_set_other {α : Type} (v : PerSide α) {i j : Side} (x : α) (h : j ≠ i) :
    (v.set i x).get j = v.get j := by cases i <;> cases j <;> first | rfl | exact absurd rfl h

@[simp] theorem PerSide.get_const {α : Type} (x : α) (i : Side) : (PerSide.const x).get i = x := by
  cases i <;> rfl

end Sys2Proof

namespace Sys2Proof.Machine

open Sys2Proof

/-! ### The records of a doorway, a side and a port -/

@[simp] theorem State.door_setDoor_same (s : State) (d : Doorway) (r : Door) :
    (s.setDoor d r).door d = r := PerDoorway.get_set_same _ _ _

theorem State.door_setDoor_other (s : State) {d e : Doorway} (r : Door) (h : e ≠ d) :
    (s.setDoor d r).door e = s.door e := PerDoorway.get_set_other _ _ h

@[simp] theorem State.door_modDoor_same (s : State) (d : Doorway) (f : Door → Door) :
    (s.modDoor d f).door d = f (s.door d) := State.door_setDoor_same _ _ _

theorem State.door_modDoor_other (s : State) {d e : Doorway} (f : Door → Door) (h : e ≠ d) :
    (s.modDoor d f).door e = s.door e := State.door_setDoor_other _ _ h

@[simp] theorem State.side_setSide_same (s : State) (i : Side) (r : SideRecord) :
    (s.setSide i r).side i = r := PerSide.get_set_same _ _ _

theorem State.side_setSide_other (s : State) {i j : Side} (r : SideRecord) (h : j ≠ i) :
    (s.setSide i r).side j = s.side j := PerSide.get_set_other _ _ h

@[simp] theorem State.side_modSide_same (s : State) (i : Side) (f : SideRecord → SideRecord) :
    (s.modSide i f).side i = f (s.side i) := State.side_setSide_same _ _ _

theorem State.side_modSide_other (s : State) {i j : Side} (f : SideRecord → SideRecord) (h : j ≠ i) :
    (s.modSide i f).side j = s.side j := State.side_setSide_other _ _ h

@[simp] theorem State.port_setPort_same (s : State) (q : Port) (r : LinkPort) :
    (s.setPort q r).port q = r := by cases q <;> rfl

theorem State.port_setPort_other (s : State) {q p : Port} (r : LinkPort) (h : p ≠ q) :
    (s.setPort q r).port p = s.port p := by
  cases q <;> cases p <;> first | rfl | exact absurd rfl h

@[simp] theorem State.port_modPort_same (s : State) (q : Port) (f : LinkPort → LinkPort) :
    (s.modPort q f).port q = f (s.port q) := State.port_setPort_same _ _ _

theorem State.port_modPort_other (s : State) {q p : Port} (f : LinkPort → LinkPort) (h : p ≠ q) :
    (s.modPort q f).port p = s.port p := State.port_setPort_other _ _ h

/-! ### The fields an update keeps -/

@[simp] theorem State.setDoor_powered (s : State) (d : Doorway) (r : Door) :
    (s.setDoor d r).powered = s.powered := rfl
@[simp] theorem State.setDoor_time (s : State) (d : Doorway) (r : Door) :
    (s.setDoor d r).time = s.time := rfl
@[simp] theorem State.setDoor_standDown (s : State) (d : Doorway) (r : Door) :
    (s.setDoor d r).standDown = s.standDown := rfl
@[simp] theorem State.setDoor_lastStart (s : State) (d : Doorway) (r : Door) :
    (s.setDoor d r).lastStart = s.lastStart := rfl
@[simp] theorem State.setDoor_zeroSpeed (s : State) (d : Doorway) (r : Door) :
    (s.setDoor d r).zeroSpeed = s.zeroSpeed := rfl
@[simp] theorem State.setDoor_sides (s : State) (d : Doorway) (r : Door) :
    (s.setDoor d r).sides = s.sides := rfl
@[simp] theorem State.setDoor_serviceMode (s : State) (d : Doorway) (r : Door) :
    (s.setDoor d r).serviceMode = s.serviceMode := rfl
@[simp] theorem State.setDoor_demandCounter (s : State) (d : Doorway) (r : Door) :
    (s.setDoor d r).demandCounter = s.demandCounter := rfl
@[simp] theorem State.setDoor_silentDwell (s : State) (d : Doorway) (r : Door) :
    (s.setDoor d r).silentDwell = s.silentDwell := rfl
@[simp] theorem State.setDoor_arbiter (s : State) (d : Doorway) (r : Door) :
    (s.setDoor d r).arbiter = s.arbiter := rfl
@[simp] theorem State.setDoor_link (s : State) (d : Doorway) (r : Door) :
    (s.setDoor d r).link = s.link := rfl
@[simp] theorem State.setDoor_ports (s : State) (d : Doorway) (r : Door) :
    (s.setDoor d r).ports = s.ports := rfl
@[simp] theorem State.setDoor_carSilence (s : State) (d : Doorway) (r : Door) :
    (s.setDoor d r).carSilence = s.carSilence := rfl
@[simp] theorem State.setDoor_settings (s : State) (d : Doorway) (r : Door) :
    (s.setDoor d r).settings = s.settings := rfl
@[simp] theorem State.setDoor_store (s : State) (d : Doorway) (r : Door) :
    (s.setDoor d r).store = s.store := rfl
@[simp] theorem State.setDoor_cursor (s : State) (d : Doorway) (r : Door) :
    (s.setDoor d r).cursor = s.cursor := rfl
@[simp] theorem State.setDoor_pending (s : State) (d : Doorway) (r : Door) :
    (s.setDoor d r).pending = s.pending := rfl
@[simp] theorem State.setDoor_side (s : State) (d : Doorway) (r : Door) (j : Side) :
    (s.setDoor d r).side j = s.side j := rfl
@[simp] theorem State.setDoor_port (s : State) (d : Doorway) (r : Door) (p : Port) :
    (s.setDoor d r).port p = s.port p := rfl
@[simp] theorem State.modDoor_powered (s : State) (d : Doorway) (f : Door → Door) :
    (s.modDoor d f).powered = s.powered := rfl
@[simp] theorem State.modDoor_time (s : State) (d : Doorway) (f : Door → Door) :
    (s.modDoor d f).time = s.time := rfl
@[simp] theorem State.modDoor_standDown (s : State) (d : Doorway) (f : Door → Door) :
    (s.modDoor d f).standDown = s.standDown := rfl
@[simp] theorem State.modDoor_lastStart (s : State) (d : Doorway) (f : Door → Door) :
    (s.modDoor d f).lastStart = s.lastStart := rfl
@[simp] theorem State.modDoor_zeroSpeed (s : State) (d : Doorway) (f : Door → Door) :
    (s.modDoor d f).zeroSpeed = s.zeroSpeed := rfl
@[simp] theorem State.modDoor_sides (s : State) (d : Doorway) (f : Door → Door) :
    (s.modDoor d f).sides = s.sides := rfl
@[simp] theorem State.modDoor_serviceMode (s : State) (d : Doorway) (f : Door → Door) :
    (s.modDoor d f).serviceMode = s.serviceMode := rfl
@[simp] theorem State.modDoor_demandCounter (s : State) (d : Doorway) (f : Door → Door) :
    (s.modDoor d f).demandCounter = s.demandCounter := rfl
@[simp] theorem State.modDoor_silentDwell (s : State) (d : Doorway) (f : Door → Door) :
    (s.modDoor d f).silentDwell = s.silentDwell := rfl
@[simp] theorem State.modDoor_arbiter (s : State) (d : Doorway) (f : Door → Door) :
    (s.modDoor d f).arbiter = s.arbiter := rfl
@[simp] theorem State.modDoor_link (s : State) (d : Doorway) (f : Door → Door) :
    (s.modDoor d f).link = s.link := rfl
@[simp] theorem State.modDoor_ports (s : State) (d : Doorway) (f : Door → Door) :
    (s.modDoor d f).ports = s.ports := rfl
@[simp] theorem State.modDoor_carSilence (s : State) (d : Doorway) (f : Door → Door) :
    (s.modDoor d f).carSilence = s.carSilence := rfl
@[simp] theorem State.modDoor_settings (s : State) (d : Doorway) (f : Door → Door) :
    (s.modDoor d f).settings = s.settings := rfl
@[simp] theorem State.modDoor_store (s : State) (d : Doorway) (f : Door → Door) :
    (s.modDoor d f).store = s.store := rfl
@[simp] theorem State.modDoor_cursor (s : State) (d : Doorway) (f : Door → Door) :
    (s.modDoor d f).cursor = s.cursor := rfl
@[simp] theorem State.modDoor_pending (s : State) (d : Doorway) (f : Door → Door) :
    (s.modDoor d f).pending = s.pending := rfl
@[simp] theorem State.modDoor_side (s : State) (d : Doorway) (f : Door → Door) (j : Side) :
    (s.modDoor d f).side j = s.side j := rfl
@[simp] theorem State.modDoor_port (s : State) (d : Doorway) (f : Door → Door) (p : Port) :
    (s.modDoor d f).port p = s.port p := rfl
@[simp] theorem State.setSide_powered (s : State) (i : Side) (r : SideRecord) :
    (s.setSide i r).powered = s.powered := rfl
@[simp] theorem State.setSide_time (s : State) (i : Side) (r : SideRecord) :
    (s.setSide i r).time = s.time := rfl
@[simp] theorem State.setSide_standDown (s : State) (i : Side) (r : SideRecord) :
    (s.setSide i r).standDown = s.standDown := rfl
@[simp] theorem State.setSide_lastStart (s : State) (i : Side) (r : SideRecord) :
    (s.setSide i r).lastStart = s.lastStart := rfl
@[simp] theorem State.setSide_zeroSpeed (s : State) (i : Side) (r : SideRecord) :
    (s.setSide i r).zeroSpeed = s.zeroSpeed := rfl
@[simp] theorem State.setSide_doors (s : State) (i : Side) (r : SideRecord) :
    (s.setSide i r).doors = s.doors := rfl
@[simp] theorem State.setSide_serviceMode (s : State) (i : Side) (r : SideRecord) :
    (s.setSide i r).serviceMode = s.serviceMode := rfl
@[simp] theorem State.setSide_demandCounter (s : State) (i : Side) (r : SideRecord) :
    (s.setSide i r).demandCounter = s.demandCounter := rfl
@[simp] theorem State.setSide_silentDwell (s : State) (i : Side) (r : SideRecord) :
    (s.setSide i r).silentDwell = s.silentDwell := rfl
@[simp] theorem State.setSide_arbiter (s : State) (i : Side) (r : SideRecord) :
    (s.setSide i r).arbiter = s.arbiter := rfl
@[simp] theorem State.setSide_link (s : State) (i : Side) (r : SideRecord) :
    (s.setSide i r).link = s.link := rfl
@[simp] theorem State.setSide_ports (s : State) (i : Side) (r : SideRecord) :
    (s.setSide i r).ports = s.ports := rfl
@[simp] theorem State.setSide_carSilence (s : State) (i : Side) (r : SideRecord) :
    (s.setSide i r).carSilence = s.carSilence := rfl
@[simp] theorem State.setSide_settings (s : State) (i : Side) (r : SideRecord) :
    (s.setSide i r).settings = s.settings := rfl
@[simp] theorem State.setSide_store (s : State) (i : Side) (r : SideRecord) :
    (s.setSide i r).store = s.store := rfl
@[simp] theorem State.setSide_cursor (s : State) (i : Side) (r : SideRecord) :
    (s.setSide i r).cursor = s.cursor := rfl
@[simp] theorem State.setSide_pending (s : State) (i : Side) (r : SideRecord) :
    (s.setSide i r).pending = s.pending := rfl
@[simp] theorem State.setSide_door (s : State) (i : Side) (r : SideRecord) (e : Doorway) :
    (s.setSide i r).door e = s.door e := rfl
@[simp] theorem State.setSide_port (s : State) (i : Side) (r : SideRecord) (p : Port) :
    (s.setSide i r).port p = s.port p := rfl
@[simp] theorem State.modSide_powered (s : State) (i : Side) (f : SideRecord → SideRecord) :
    (s.modSide i f).powered = s.powered := rfl
@[simp] theorem State.modSide_time (s : State) (i : Side) (f : SideRecord → SideRecord) :
    (s.modSide i f).time = s.time := rfl
@[simp] theorem State.modSide_standDown (s : State) (i : Side) (f : SideRecord → SideRecord) :
    (s.modSide i f).standDown = s.standDown := rfl
@[simp] theorem State.modSide_lastStart (s : State) (i : Side) (f : SideRecord → SideRecord) :
    (s.modSide i f).lastStart = s.lastStart := rfl
@[simp] theorem State.modSide_zeroSpeed (s : State) (i : Side) (f : SideRecord → SideRecord) :
    (s.modSide i f).zeroSpeed = s.zeroSpeed := rfl
@[simp] theorem State.modSide_doors (s : State) (i : Side) (f : SideRecord → SideRecord) :
    (s.modSide i f).doors = s.doors := rfl
@[simp] theorem State.modSide_serviceMode (s : State) (i : Side) (f : SideRecord → SideRecord) :
    (s.modSide i f).serviceMode = s.serviceMode := rfl
@[simp] theorem State.modSide_demandCounter (s : State) (i : Side) (f : SideRecord → SideRecord) :
    (s.modSide i f).demandCounter = s.demandCounter := rfl
@[simp] theorem State.modSide_silentDwell (s : State) (i : Side) (f : SideRecord → SideRecord) :
    (s.modSide i f).silentDwell = s.silentDwell := rfl
@[simp] theorem State.modSide_arbiter (s : State) (i : Side) (f : SideRecord → SideRecord) :
    (s.modSide i f).arbiter = s.arbiter := rfl
@[simp] theorem State.modSide_link (s : State) (i : Side) (f : SideRecord → SideRecord) :
    (s.modSide i f).link = s.link := rfl
@[simp] theorem State.modSide_ports (s : State) (i : Side) (f : SideRecord → SideRecord) :
    (s.modSide i f).ports = s.ports := rfl
@[simp] theorem State.modSide_carSilence (s : State) (i : Side) (f : SideRecord → SideRecord) :
    (s.modSide i f).carSilence = s.carSilence := rfl
@[simp] theorem State.modSide_settings (s : State) (i : Side) (f : SideRecord → SideRecord) :
    (s.modSide i f).settings = s.settings := rfl
@[simp] theorem State.modSide_store (s : State) (i : Side) (f : SideRecord → SideRecord) :
    (s.modSide i f).store = s.store := rfl
@[simp] theorem State.modSide_cursor (s : State) (i : Side) (f : SideRecord → SideRecord) :
    (s.modSide i f).cursor = s.cursor := rfl
@[simp] theorem State.modSide_pending (s : State) (i : Side) (f : SideRecord → SideRecord) :
    (s.modSide i f).pending = s.pending := rfl
@[simp] theorem State.modSide_door (s : State) (i : Side) (f : SideRecord → SideRecord) (e : Doorway) :
    (s.modSide i f).door e = s.door e := rfl
@[simp] theorem State.modSide_port (s : State) (i : Side) (f : SideRecord → SideRecord) (p : Port) :
    (s.modSide i f).port p = s.port p := rfl
@[simp] theorem State.setPort_powered (s : State) (q : Port) (r : LinkPort) :
    (s.setPort q r).powered = s.powered := rfl
@[simp] theorem State.setPort_time (s : State) (q : Port) (r : LinkPort) :
    (s.setPort q r).time = s.time := rfl
@[simp] theorem State.setPort_standDown (s : State) (q : Port) (r : LinkPort) :
    (s.setPort q r).standDown = s.standDown := rfl
@[simp] theorem State.setPort_lastStart (s : State) (q : Port) (r : LinkPort) :
    (s.setPort q r).lastStart = s.lastStart := rfl
@[simp] theorem State.setPort_zeroSpeed (s : State) (q : Port) (r : LinkPort) :
    (s.setPort q r).zeroSpeed = s.zeroSpeed := rfl
@[simp] theorem State.setPort_doors (s : State) (q : Port) (r : LinkPort) :
    (s.setPort q r).doors = s.doors := rfl
@[simp] theorem State.setPort_sides (s : State) (q : Port) (r : LinkPort) :
    (s.setPort q r).sides = s.sides := rfl
@[simp] theorem State.setPort_serviceMode (s : State) (q : Port) (r : LinkPort) :
    (s.setPort q r).serviceMode = s.serviceMode := rfl
@[simp] theorem State.setPort_demandCounter (s : State) (q : Port) (r : LinkPort) :
    (s.setPort q r).demandCounter = s.demandCounter := rfl
@[simp] theorem State.setPort_silentDwell (s : State) (q : Port) (r : LinkPort) :
    (s.setPort q r).silentDwell = s.silentDwell := rfl
@[simp] theorem State.setPort_arbiter (s : State) (q : Port) (r : LinkPort) :
    (s.setPort q r).arbiter = s.arbiter := rfl
@[simp] theorem State.setPort_link (s : State) (q : Port) (r : LinkPort) :
    (s.setPort q r).link = s.link := rfl
@[simp] theorem State.setPort_carSilence (s : State) (q : Port) (r : LinkPort) :
    (s.setPort q r).carSilence = s.carSilence := rfl
@[simp] theorem State.setPort_settings (s : State) (q : Port) (r : LinkPort) :
    (s.setPort q r).settings = s.settings := rfl
@[simp] theorem State.setPort_store (s : State) (q : Port) (r : LinkPort) :
    (s.setPort q r).store = s.store := rfl
@[simp] theorem State.setPort_cursor (s : State) (q : Port) (r : LinkPort) :
    (s.setPort q r).cursor = s.cursor := rfl
@[simp] theorem State.setPort_pending (s : State) (q : Port) (r : LinkPort) :
    (s.setPort q r).pending = s.pending := rfl
@[simp] theorem State.setPort_door (s : State) (q : Port) (r : LinkPort) (e : Doorway) :
    (s.setPort q r).door e = s.door e := rfl
@[simp] theorem State.setPort_side (s : State) (q : Port) (r : LinkPort) (j : Side) :
    (s.setPort q r).side j = s.side j := rfl
@[simp] theorem State.modPort_powered (s : State) (q : Port) (f : LinkPort → LinkPort) :
    (s.modPort q f).powered = s.powered := rfl
@[simp] theorem State.modPort_time (s : State) (q : Port) (f : LinkPort → LinkPort) :
    (s.modPort q f).time = s.time := rfl
@[simp] theorem State.modPort_standDown (s : State) (q : Port) (f : LinkPort → LinkPort) :
    (s.modPort q f).standDown = s.standDown := rfl
@[simp] theorem State.modPort_lastStart (s : State) (q : Port) (f : LinkPort → LinkPort) :
    (s.modPort q f).lastStart = s.lastStart := rfl
@[simp] theorem State.modPort_zeroSpeed (s : State) (q : Port) (f : LinkPort → LinkPort) :
    (s.modPort q f).zeroSpeed = s.zeroSpeed := rfl
@[simp] theorem State.modPort_doors (s : State) (q : Port) (f : LinkPort → LinkPort) :
    (s.modPort q f).doors = s.doors := rfl
@[simp] theorem State.modPort_sides (s : State) (q : Port) (f : LinkPort → LinkPort) :
    (s.modPort q f).sides = s.sides := rfl
@[simp] theorem State.modPort_serviceMode (s : State) (q : Port) (f : LinkPort → LinkPort) :
    (s.modPort q f).serviceMode = s.serviceMode := rfl
@[simp] theorem State.modPort_demandCounter (s : State) (q : Port) (f : LinkPort → LinkPort) :
    (s.modPort q f).demandCounter = s.demandCounter := rfl
@[simp] theorem State.modPort_silentDwell (s : State) (q : Port) (f : LinkPort → LinkPort) :
    (s.modPort q f).silentDwell = s.silentDwell := rfl
@[simp] theorem State.modPort_arbiter (s : State) (q : Port) (f : LinkPort → LinkPort) :
    (s.modPort q f).arbiter = s.arbiter := rfl
@[simp] theorem State.modPort_link (s : State) (q : Port) (f : LinkPort → LinkPort) :
    (s.modPort q f).link = s.link := rfl
@[simp] theorem State.modPort_carSilence (s : State) (q : Port) (f : LinkPort → LinkPort) :
    (s.modPort q f).carSilence = s.carSilence := rfl
@[simp] theorem State.modPort_settings (s : State) (q : Port) (f : LinkPort → LinkPort) :
    (s.modPort q f).settings = s.settings := rfl
@[simp] theorem State.modPort_store (s : State) (q : Port) (f : LinkPort → LinkPort) :
    (s.modPort q f).store = s.store := rfl
@[simp] theorem State.modPort_cursor (s : State) (q : Port) (f : LinkPort → LinkPort) :
    (s.modPort q f).cursor = s.cursor := rfl
@[simp] theorem State.modPort_pending (s : State) (q : Port) (f : LinkPort → LinkPort) :
    (s.modPort q f).pending = s.pending := rfl
@[simp] theorem State.modPort_door (s : State) (q : Port) (f : LinkPort → LinkPort) (e : Doorway) :
    (s.modPort q f).door e = s.door e := rfl
@[simp] theorem State.modPort_side (s : State) (q : Port) (f : LinkPort → LinkPort) (j : Side) :
    (s.modPort q f).side j = s.side j := rfl
@[simp] theorem State.modArbiter_powered (s : State) (f : Arbiter → Arbiter) :
    (s.modArbiter f).powered = s.powered := rfl
@[simp] theorem State.modArbiter_time (s : State) (f : Arbiter → Arbiter) :
    (s.modArbiter f).time = s.time := rfl
@[simp] theorem State.modArbiter_standDown (s : State) (f : Arbiter → Arbiter) :
    (s.modArbiter f).standDown = s.standDown := rfl
@[simp] theorem State.modArbiter_lastStart (s : State) (f : Arbiter → Arbiter) :
    (s.modArbiter f).lastStart = s.lastStart := rfl
@[simp] theorem State.modArbiter_zeroSpeed (s : State) (f : Arbiter → Arbiter) :
    (s.modArbiter f).zeroSpeed = s.zeroSpeed := rfl
@[simp] theorem State.modArbiter_doors (s : State) (f : Arbiter → Arbiter) :
    (s.modArbiter f).doors = s.doors := rfl
@[simp] theorem State.modArbiter_sides (s : State) (f : Arbiter → Arbiter) :
    (s.modArbiter f).sides = s.sides := rfl
@[simp] theorem State.modArbiter_serviceMode (s : State) (f : Arbiter → Arbiter) :
    (s.modArbiter f).serviceMode = s.serviceMode := rfl
@[simp] theorem State.modArbiter_demandCounter (s : State) (f : Arbiter → Arbiter) :
    (s.modArbiter f).demandCounter = s.demandCounter := rfl
@[simp] theorem State.modArbiter_silentDwell (s : State) (f : Arbiter → Arbiter) :
    (s.modArbiter f).silentDwell = s.silentDwell := rfl
@[simp] theorem State.modArbiter_link (s : State) (f : Arbiter → Arbiter) :
    (s.modArbiter f).link = s.link := rfl
@[simp] theorem State.modArbiter_ports (s : State) (f : Arbiter → Arbiter) :
    (s.modArbiter f).ports = s.ports := rfl
@[simp] theorem State.modArbiter_carSilence (s : State) (f : Arbiter → Arbiter) :
    (s.modArbiter f).carSilence = s.carSilence := rfl
@[simp] theorem State.modArbiter_settings (s : State) (f : Arbiter → Arbiter) :
    (s.modArbiter f).settings = s.settings := rfl
@[simp] theorem State.modArbiter_store (s : State) (f : Arbiter → Arbiter) :
    (s.modArbiter f).store = s.store := rfl
@[simp] theorem State.modArbiter_cursor (s : State) (f : Arbiter → Arbiter) :
    (s.modArbiter f).cursor = s.cursor := rfl
@[simp] theorem State.modArbiter_pending (s : State) (f : Arbiter → Arbiter) :
    (s.modArbiter f).pending = s.pending := rfl
@[simp] theorem State.modArbiter_door (s : State) (f : Arbiter → Arbiter) (e : Doorway) :
    (s.modArbiter f).door e = s.door e := rfl
@[simp] theorem State.modArbiter_side (s : State) (f : Arbiter → Arbiter) (j : Side) :
    (s.modArbiter f).side j = s.side j := rfl
@[simp] theorem State.modArbiter_port (s : State) (f : Arbiter → Arbiter) (p : Port) :
    (s.modArbiter f).port p = s.port p := rfl
@[simp] theorem State.modLink_powered (s : State) (f : LinkMonitor → LinkMonitor) :
    (s.modLink f).powered = s.powered := rfl
@[simp] theorem State.modLink_time (s : State) (f : LinkMonitor → LinkMonitor) :
    (s.modLink f).time = s.time := rfl
@[simp] theorem State.modLink_standDown (s : State) (f : LinkMonitor → LinkMonitor) :
    (s.modLink f).standDown = s.standDown := rfl
@[simp] theorem State.modLink_lastStart (s : State) (f : LinkMonitor → LinkMonitor) :
    (s.modLink f).lastStart = s.lastStart := rfl
@[simp] theorem State.modLink_zeroSpeed (s : State) (f : LinkMonitor → LinkMonitor) :
    (s.modLink f).zeroSpeed = s.zeroSpeed := rfl
@[simp] theorem State.modLink_doors (s : State) (f : LinkMonitor → LinkMonitor) :
    (s.modLink f).doors = s.doors := rfl
@[simp] theorem State.modLink_sides (s : State) (f : LinkMonitor → LinkMonitor) :
    (s.modLink f).sides = s.sides := rfl
@[simp] theorem State.modLink_serviceMode (s : State) (f : LinkMonitor → LinkMonitor) :
    (s.modLink f).serviceMode = s.serviceMode := rfl
@[simp] theorem State.modLink_demandCounter (s : State) (f : LinkMonitor → LinkMonitor) :
    (s.modLink f).demandCounter = s.demandCounter := rfl
@[simp] theorem State.modLink_silentDwell (s : State) (f : LinkMonitor → LinkMonitor) :
    (s.modLink f).silentDwell = s.silentDwell := rfl
@[simp] theorem State.modLink_arbiter (s : State) (f : LinkMonitor → LinkMonitor) :
    (s.modLink f).arbiter = s.arbiter := rfl
@[simp] theorem State.modLink_ports (s : State) (f : LinkMonitor → LinkMonitor) :
    (s.modLink f).ports = s.ports := rfl
@[simp] theorem State.modLink_carSilence (s : State) (f : LinkMonitor → LinkMonitor) :
    (s.modLink f).carSilence = s.carSilence := rfl
@[simp] theorem State.modLink_settings (s : State) (f : LinkMonitor → LinkMonitor) :
    (s.modLink f).settings = s.settings := rfl
@[simp] theorem State.modLink_store (s : State) (f : LinkMonitor → LinkMonitor) :
    (s.modLink f).store = s.store := rfl
@[simp] theorem State.modLink_cursor (s : State) (f : LinkMonitor → LinkMonitor) :
    (s.modLink f).cursor = s.cursor := rfl
@[simp] theorem State.modLink_pending (s : State) (f : LinkMonitor → LinkMonitor) :
    (s.modLink f).pending = s.pending := rfl
@[simp] theorem State.modLink_door (s : State) (f : LinkMonitor → LinkMonitor) (e : Doorway) :
    (s.modLink f).door e = s.door e := rfl
@[simp] theorem State.modLink_side (s : State) (f : LinkMonitor → LinkMonitor) (j : Side) :
    (s.modLink f).side j = s.side j := rfl
@[simp] theorem State.modLink_port (s : State) (f : LinkMonitor → LinkMonitor) (p : Port) :
    (s.modLink f).port p = s.port p := rfl

@[simp] theorem State.modArbiter_arbiter (s : State) (f : Arbiter → Arbiter) :
    (s.modArbiter f).arbiter = f s.arbiter := rfl
@[simp] theorem State.modLink_link (s : State) (f : LinkMonitor → LinkMonitor) :
    (s.modLink f).link = f s.link := rfl

/-! ### Working through doorways -/

@[simp] theorem forDoors_nil (f : Doorway → State → State) (s : State) : forDoors [] f s = s := rfl
@[simp] theorem forDoors_cons (d : Doorway) (ds : List Doorway) (f : Doorway → State → State)
    (s : State) : forDoors (d :: ds) f s = forDoors ds f (f d s) := rfl

/-- What every step of the work keeps, the work keeps. -/
theorem forDoors_keeps {α : Type} (view : State → α) (ds : List Doorway)
    {f : Doorway → State → State} (h : ∀ d s, view (f d s) = view s) (s : State) :
    view (forDoors ds f s) = view s := by
  induction ds generalizing s with
  | nil => rfl
  | cons d ds ih => rw [forDoors_cons, ih, h]

/-- A property that every step of the work keeps holds at its end. -/
theorem forDoors_induct {P : State → Prop} (ds : List Doorway) {f : Doorway → State → State}
    (h : ∀ d s, P s → P (f d s)) {s : State} (hs : P s) : P (forDoors ds f s) := by
  induction ds generalizing s with
  | nil => exact hs
  | cons d ds ih => exact ih (h d s hs)

theorem whenPowered_eq {s : State} (h : s.powered = true) (f : State → State) :
    whenPowered s f = .next (f s) := by simp [whenPowered, h]

theorem whenPowered_unpowered {s : State} (h : s.powered = false) (f : State → State) :
    whenPowered s f = .next s := by simp [whenPowered, h]

end Sys2Proof.Machine
end

