-- ==== Sys2Proof/Laws/Frames.lean ====
section
/-! SUPPORT. What the sequencers, the arbiter and the proof and loop block never touch: every operation
that changes a motion, a grant or a proof keeps `State.rest`. An operation that takes the grant decision
as its argument keeps it when the decision does. -/

namespace Sys2Proof.Machine

open Sys2Proof

/-- A decision that keeps what motions do not touch. -/
def KeepsRest (dec : State → State) : Prop := ∀ s, (dec s).rest = s.rest

theorem keepsRest_id : KeepsRest id := fun _ => rfl

/-! ### Updates -/

theorem setDoor_rest (s : State) (d : Doorway) {r : Door} (h : r.rest = (s.door d).rest) :
    (s.setDoor d r).rest = s.rest := by
  cases d <;> simp_all [State.rest, State.setDoor, PerDoorway.set, State.door, PerDoorway.get]

theorem modDoor_rest (s : State) (d : Doorway) {f : Door → Door} (h : ∀ r, (f r).rest = r.rest) :
    (s.modDoor d f).rest = s.rest := setDoor_rest s d (h _)

theorem modSide_rest (s : State) (i : Side) {f : SideRecord → SideRecord}
    (h : ∀ r, (f r).rest = r.rest) : (s.modSide i f).rest = s.rest := by
  have h' := h (s.side i)
  cases i <;>
    simp_all [State.rest, State.modSide, State.setSide, PerSide.set, State.side, PerSide.get]

theorem modPort_rest (s : State) (q : Port) {f : LinkPort → LinkPort}
    (h : ∀ r, (f r).rest = r.rest) : (s.modPort q f).rest = s.rest := by
  have h' := h (s.port q)
  cases q <;> simp_all [State.rest, State.modPort, State.setPort, State.port]

theorem modArbiter_rest (s : State) {f : Arbiter → Arbiter}
    (h : ∀ a, (f a).supply = a.supply) : (s.modArbiter f).rest = s.rest := by
  simp [State.rest, State.modArbiter, h]

theorem modLink_rest (s : State) {f : LinkMonitor → LinkMonitor}
    (h : ∀ l, { f l with triggers := [] } = { l with triggers := [] }) :
    (s.modLink f).rest = s.rest := by
  have h' := h s.link
  simp only [State.rest, State.modLink]
  rw [show ({ f s.link with triggers := [] } : LinkMonitor) = { s.link with triggers := [] } from h']

/-! ### Attention -/

theorem raiseOn_rest (q : Port) (f : AttentionSet → AttentionSet) (s : State) :
    (raiseOn q f s).rest = s.rest := by
  cases q <;> first | rfl | exact modPort_rest s _ fun _ => rfl

theorem raiseBoth_rest (f : AttentionSet → AttentionSet) (s : State) :
    (raiseBoth f s).rest = s.rest := by rw [raiseBoth, raiseOn_rest, raiseOn_rest]

@[simp] theorem raiseState_rest (d : Doorway) (st : DoorState) (s : State) :
    (raiseState d st s).rest = s.rest := raiseBoth_rest _ s
@[simp] theorem raiseObstruction_rest (d : Doorway) (s : State) :
    (raiseObstruction d s).rest = s.rest := raiseBoth_rest _ s
@[simp] theorem raiseOpenRefused_rest (d : Doorway) (g : Gate) (s : State) :
    (raiseOpenRefused d g s).rest = s.rest := raiseBoth_rest _ s
@[simp] theorem raiseGrantLate_rest (d : Doorway) (s : State) :
    (raiseGrantLate d s).rest = s.rest := raiseBoth_rest _ s
@[simp] theorem raiseSideProof_rest (i : Side) (s : State) :
    (raiseSideProof i s).rest = s.rest := raiseBoth_rest _ s
@[simp] theorem raiseLoopTestDone_rest (i : Side) (s : State) :
    (raiseLoopTestDone i s).rest = s.rest := raiseBoth_rest _ s
@[simp] theorem raiseLoopMonitor_rest (i : Side) (e : LoopEvent) (s : State) :
    (raiseLoopMonitor i e s).rest = s.rest := raiseBoth_rest _ s

/-! ### The proof and loop block -/

@[simp] theorem queueTrigger_rest (kind : TriggerKind) (i : Side) (s : State) :
    (queueTrigger kind i s).rest = s.rest := by
  unfold queueTrigger
  split
  · exact modLink_rest s fun _ => rfl
  · rfl

@[simp] theorem examineSide_rest (i : Side) (s : State) : (examineSide i s).rest = s.rest := by
  unfold examineSide
  split
  · rfl
  · exact modSide_rest s i fun _ => rfl

@[simp] theorem startWatch_rest (i : Side) (s : State) : (startWatch i s).rest = s.rest := by
  unfold startWatch
  split
  · rfl
  · exact modSide_rest s i fun _ => rfl

@[simp] theorem driveOutput_rest (i : Side) (level : Bool) (s : State) :
    (driveOutput i level s).rest = s.rest := by
  unfold driveOutput
  split
  · rfl
  · rw [examineSide_rest]; exact modSide_rest s i fun _ => rfl

@[simp] theorem recomputeProof_rest (i : Side) (s : State) : (recomputeProof i s).rest = s.rest := by
  have h : ∀ v, (s.modSide i fun r => { r with proof := v }).rest = s.rest :=
    fun v => modSide_rest s i fun _ => rfl
  unfold recomputeProof
  dsimp only
  split
  · rfl
  · split <;> split <;> simp [h]

@[simp] theorem endTest_rest (i : Side) (v : Verdict) (s : State) : (endTest i v s).rest = s.rest := by
  simp only [endTest, startWatch_rest, raiseLoopTestDone_rest, driveOutput_rest, recomputeProof_rest]
  exact modSide_rest s i fun _ => rfl

@[simp] theorem abortTest_rest (i : Side) (s : State) : (abortTest i s).rest = s.rest := by
  unfold abortTest
  split <;> simp

@[simp] theorem doorChanged_rest (d : Doorway) (s : State) : (doorChanged d s).rest = s.rest := by
  unfold doorChanged
  split <;> simp

/-! ### The arbiter -/

@[simp] theorem setStanding_rest (d : Doorway) (w : Standing) (s : State) :
    (setStanding d w s).rest = s.rest := modDoor_rest s d fun _ => rfl

theorem setQueue_supply (a : Arbiter) (c : GrantClass) (q : List Entry) :
    (a.setQueue c q).supply = a.supply := by cases c <;> rfl

@[simp] theorem appendToQueue_rest (e : Entry) (s : State) : (appendToQueue e s).rest = s.rest := by
  unfold appendToQueue
  dsimp only
  split <;> simp only [raiseGrantLate_rest, setStanding_rest] <;>
    exact modArbiter_rest s fun a => setQueue_supply a _ _

@[simp] theorem placeRequest_rest (e : Entry) (s : State) : (placeRequest e s).rest = s.rest := by
  unfold placeRequest
  split
  · simp
  · rw [setStanding_rest]; exact modArbiter_rest s fun _ => rfl

@[simp] theorem fillSlot_rest (c : GrantClass) (s : State) : (fillSlot c s).rest = s.rest := by
  unfold fillSlot
  split
  · rfl
  · split
    · rw [appendToQueue_rest]; exact modArbiter_rest s fun _ => rfl
    · rfl

@[simp] theorem removeRequest_rest (d : Doorway) (c : GrantClass) (s : State) :
    (removeRequest d c s).rest = s.rest := by
  rw [removeRequest, fillSlot_rest]
  exact modArbiter_rest s fun a => setQueue_supply a _ _

@[simp] theorem removeWaiting_rest (d : Doorway) (s : State) : (removeWaiting d s).rest = s.rest :=
  modArbiter_rest s fun _ => rfl

@[simp] theorem takeGrant_rest (e : Entry) (s : State) : (takeGrant e s).rest = s.rest := by
  simp only [takeGrant, fillSlot_rest]
  rw [modDoor_rest, modArbiter_rest]
  · intro a; exact setQueue_supply a _ _
  · intro _; rfl

theorem activatePair_supply (a : Arbiter) : (activatePair a).supply = a.supply := by
  unfold activatePair
  split
  · rfl
  · split <;> rfl

/-! ### The sequencers -/

@[simp] theorem takeState_rest (d : Doorway) (st : DoorState) (s : State) :
    (takeState d st s).rest = s.rest := by
  unfold takeState
  dsimp only
  rw [doorChanged_rest]
  split <;> first
    | exact modDoor_rest s d fun _ => rfl
    | (rw [raiseState_rest]; exact modDoor_rest s d fun _ => rfl)

section Deciding

variable {dec : State → State} (hdec : KeepsRest dec)
include hdec

theorem releaseGrant_rest (d : Doorway) (s : State) : (releaseGrant dec d s).rest = s.rest := by
  unfold releaseGrant
  split
  · rfl
  · rw [hdec, modArbiter_rest, modDoor_rest]
    · intro _; rfl
    · intro a; exact activatePair_supply _

theorem withdraw_rest (d : Doorway) (s : State) : (withdraw dec d s).rest = s.rest := by
  have h : ∀ m : PendingMotion, (s.modDoor d fun r =>
      { r with pendingMotion := none
               holdDeadline := if m.stand = .deferred then none else r.holdDeadline }).rest =
      s.rest := fun m => modDoor_rest s d fun _ => rfl
  unfold withdraw
  split
  · rfl
  · dsimp only
    split
    · rw [hdec, removeRequest_rest, h]
    · rw [removeWaiting_rest, h]
    all_goals exact h _

theorem enqueuePending_rest (d : Doorway) (s : State) : (enqueuePending dec d s).rest = s.rest := by
  unfold enqueuePending
  split
  · rfl
  · rw [hdec, placeRequest_rest]

theorem startDeferral_rest (d : Doorway) (s : State) : (startDeferral dec d s).rest = s.rest := by
  unfold startDeferral
  split
  · rw [enqueuePending_rest hdec]; exact modDoor_rest s d fun _ => rfl
  · rw [modDoor_rest, setStanding_rest] <;> intro _ <;> rfl

theorem postPending_rest (d : Doorway) (s : State) : (postPending dec d s).rest = s.rest := by
  unfold postPending
  split
  · rfl
  · split
    · exact setStanding_rest _ _ _
    · split
      · exact modDoor_rest s d fun _ => rfl
      · split
        · exact setStanding_rest _ _ _
        · split
          · exact startDeferral_rest hdec d s
          · exact enqueuePending_rest hdec d s

theorem setPending_rest (d : Doorway) (kind : Motion) (cls : GrantClass) (target : Option Nat)
    (s : State) : (setPending dec d kind cls target s).rest = s.rest := by
  have h : ∀ (s : State) (m : PendingMotion),
      (postPending dec d (s.modDoor d fun r => { r with pendingMotion := some m })).rest = s.rest :=
    fun s m => by rw [postPending_rest hdec]; exact modDoor_rest s d fun _ => rfl
  unfold setPending
  dsimp only
  split
  · exact h _ _
  · split
    · rfl
    · rw [h, withdraw_rest hdec]

omit hdec in
theorem unlessLocked_rest (d : Doorway) {f : State → State} (hf : ∀ s, (f s).rest = s.rest)
    (s : State) : (unlessLocked d f s).rest = s.rest := by
  unfold unlessLocked
  split
  · rfl
  · exact hf s

theorem relatch_rest (d : Doorway) (s : State) : (relatch dec d s).rest = s.rest := by
  have h : (takeState d .locked (s.modDoor d fun r =>
      { r with k := 0, pauseTimer := none, holdDriven := false })).rest = s.rest := by
    rw [takeState_rest]; exact modDoor_rest s d fun _ => rfl
  have hk : ∀ b : Bool, (if b = true then takeState d .locked (s.modDoor d fun r =>
      { r with k := 0, pauseTimer := none, holdDriven := false }) else
      withdraw dec d (takeState d .locked (s.modDoor d fun r =>
        { r with k := 0, pauseTimer := none, holdDriven := false }))).rest = s.rest := by
    intro b
    cases b
    · exact (withdraw_rest hdec _ _).trans h
    · exact h
  unfold relatch
  dsimp only
  split
  · rw [apply_ite State.rest, setPending_rest hdec, ite_self]
    exact hk _
  · rfl

theorem lockMade_rest (d : Doorway) (s : State) : (lockMade dec d s).rest = s.rest := by
  simp only [lockMade, releaseGrant_rest hdec, takeState_rest]
  exact modDoor_rest s d fun _ => rfl

theorem openReached_rest (d : Doorway) (s : State) : (openReached dec d s).rest = s.rest := by
  simp only [openReached, releaseGrant_rest hdec, takeState_rest]
  exact modDoor_rest s d fun _ => rfl

theorem reopenReached_rest (d : Doorway) (s : State) : (reopenReached dec d s).rest = s.rest := by
  unfold reopenReached
  dsimp only
  split
  · split
    · rw [setPending_rest hdec, releaseGrant_rest hdec, takeState_rest]
      exact modDoor_rest s d fun _ => rfl
    · rw [releaseGrant_rest hdec, takeState_rest]
  · rw [releaseGrant_rest hdec, takeState_rest]
    exact modDoor_rest s d fun _ => rfl

omit hdec in
@[simp] theorem recordObstruction_rest (d : Doorway) (dir : Direction) (cause : ObstructionCause)
    (zone : Option Zone) (threshold limit : Option Nat) (s : State) :
    (recordObstruction d dir cause zone threshold limit s).rest = s.rest := by
  rw [recordObstruction, raiseObstruction_rest]
  exact modDoor_rest s d fun _ => rfl

theorem setReversal_rest (d : Doorway) (s : State) : (setReversal dec d s).rest = s.rest := by
  unfold setReversal
  dsimp only
  split <;> exact setPending_rest hdec _ _ _ _ _

theorem obstruct_rest (d : Doorway) (cause : ObstructionCause) (zone : Option Zone)
    (threshold limit : Option Nat) (s : State) :
    (obstruct dec d cause zone threshold limit s).rest = s.rest := by
  simp only [obstruct, unlessLocked_rest d (setReversal_rest hdec d), relatch_rest hdec,
    releaseGrant_rest hdec, takeState_rest, recordObstruction_rest]
  exact modDoor_rest s d fun _ => rfl

theorem enterLocking_rest (d : Doorway) (s : State) : (enterLocking dec d s).rest = s.rest := by
  have h : (takeState d .locking (s.modDoor d fun r =>
      { r with lockTimer := r.attempt.map fun a => after s.time a.lockTime })).rest = s.rest := by
    rw [takeState_rest]; exact modDoor_rest s d fun _ => rfl
  unfold enterLocking
  dsimp only
  split
  · rw [lockMade_rest hdec, h]
  · exact h

theorem beginOpening_rest (d : Doorway) (s : State) : (beginOpening dec d s).rest = s.rest := by
  have h : ∀ (a : Door → Option Attempt) (c : Door → Nat), (s.modDoor d fun r =>
      { r with attempt := a r, motionCap := c r, lastForce := none, learnPermit := false }).rest =
      s.rest := fun a c => modDoor_rest s d fun _ => rfl
  unfold beginOpening
  dsimp only
  split
  · rw [openReached_rest hdec, h]
  · split
    · rw [takeState_rest, modDoor_rest, h] <;> intro _ <;> rfl
    · rw [takeState_rest, h]

theorem beginClosing_rest (d : Doorway) (s : State) : (beginClosing dec d s).rest = s.rest := by
  have h : (s.modDoor d (closingRecord s.time)).rest = s.rest := modDoor_rest s d fun _ => rfl
  unfold beginClosing
  dsimp only
  split
  · rw [enterLocking_rest hdec, h]
  · split
    · rw [obstruct_rest hdec, takeState_rest, h]
    · rw [takeState_rest, h]

theorem beginReopening_rest (d : Doorway) (kind : Motion) (target : Option Nat) (s : State) :
    (beginReopening dec d kind target s).rest = s.rest := by
  have h : ∀ (a : Door → Option Attempt) (c : Door → Nat), (s.modDoor d fun r =>
      { r with attempt := a r, motionCap := c r, lastForce := none, learnPermit := false }).rest =
      s.rest := fun a c => modDoor_rest s d fun _ => rfl
  unfold beginReopening
  dsimp only
  split
  · rw [reopenReached_rest hdec, h]
  · rw [takeState_rest, h]

theorem beginMotion_rest (d : Doorway) (kind : Motion) (target : Option Nat) (s : State) :
    (beginMotion dec d kind target s).rest = s.rest := by
  cases kind
  · exact beginOpening_rest hdec d s
  · exact beginClosing_rest hdec d s
  · exact beginReopening_rest hdec d _ _ s
  · exact beginReopening_rest hdec d _ _ s

theorem grantEntry_rest (e : Entry) (s : State) : (grantEntry dec e s).rest = s.rest := by
  rw [grantEntry, beginMotion_rest hdec, takeGrant_rest]

end Deciding

theorem grantDecisionFuel_rest (n : Nat) : KeepsRest (grantDecisionFuel n) := by
  induction n with
  | zero => exact fun _ => rfl
  | succ n ih =>
    intro s
    unfold grantDecisionFuel
    split
    · rfl
    · rw [ih, grantEntry_rest ih]

/-- R97: the grant decision keeps everything but motions, grants, sums, queues, proofs and attention. -/
theorem grantDecision_rest : KeepsRest grantDecision := grantDecisionFuel_rest _

/-! ### Demands acting, and leaving control -/

section Acting

variable {dec : State → State} (hdec : KeepsRest dec)
include hdec

theorem stopMotion_rest (d : Doorway) (s : State) : (stopMotion dec d s).rest = s.rest := by
  simp only [stopMotion, relatch_rest hdec, releaseGrant_rest hdec, takeState_rest]
  exact modDoor_rest s d fun _ => rfl

theorem actOpen_rest (d : Doorway) (s : State) : (actOpen dec d s).rest = s.rest := by
  unfold actOpen
  dsimp only
  split
  · exact setPending_rest hdec _ _ _ _ _
  · rfl
  · rfl
  · split
    · rw [setPending_rest hdec, modDoor_rest, modDoor_rest] <;> intro _ <;> rfl
    · split
      · rw [withdraw_rest hdec, modDoor_rest] <;> intro _ <;> rfl
      · exact modDoor_rest s d fun _ => rfl
  · rw [setPending_rest hdec, stopMotion_rest hdec, modDoor_rest] <;> intro _ <;> rfl
  · rw [setPending_rest hdec, stopMotion_rest hdec, modDoor_rest] <;> intro _ <;> rfl
  · rw [setPending_rest hdec, modDoor_rest] <;> intro _ <;> rfl
  · rw [setPending_rest hdec, modDoor_rest] <;> intro _ <;> rfl
  · rw [setPending_rest hdec, stopMotion_rest hdec, modDoor_rest] <;> intro _ <;> rfl
  · rw [setPending_rest hdec, modDoor_rest] <;> intro _ <;> rfl
  · rw [relatch_rest hdec, withdraw_rest hdec, takeState_rest, modDoor_rest] <;> intro _ <;> rfl
  all_goals rfl

theorem abandonUnlock_rest (d : Doorway) (s : State) : (abandonUnlock dec d s).rest = s.rest := by
  simp only [abandonUnlock, releaseGrant_rest hdec, takeState_rest]
  exact modDoor_rest s d fun _ => rfl

theorem actClose_rest (d : Doorway) (s : State) : (actClose dec d s).rest = s.rest := by
  have hset : ∀ s : State, (setPending dec d .toClose .ordinary none s).rest = s.rest :=
    fun s => setPending_rest hdec _ _ _ _ _
  unfold actClose
  dsimp only
  split
  · rfl
  split
  · split
    · rw [withdraw_rest hdec, modDoor_rest] <;> intro _ <;> rfl
    · rfl
  · exact abandonUnlock_rest hdec d s
  · rw [unlessLocked_rest d hset, stopMotion_rest hdec, modDoor_rest] <;> intro _ <;> rfl
  all_goals first
    | rfl
    | (split <;> first
        | rfl
        | exact modDoor_rest _ _ fun _ => rfl
        | exact (hset _).trans (modDoor_rest _ _ fun _ => rfl))

theorem actZeroSpeedClose_rest (d : Doorway) (s : State) :
    (actZeroSpeedClose dec d s).rest = s.rest := by
  have hset : ∀ s : State, (setPending dec d .toClose .urgent none s).rest = s.rest :=
    fun s => setPending_rest hdec _ _ _ _ _
  unfold actZeroSpeedClose
  dsimp only
  split
  · split
    · rw [withdraw_rest hdec, modDoor_rest] <;> intro _ <;> rfl
    · rfl
  · exact abandonUnlock_rest hdec d s
  · rw [unlessLocked_rest d hset, stopMotion_rest hdec]
  all_goals first
    | rfl
    | exact hset s
    | rw [hset, modDoor_rest] <;> intro _ <;> rfl
    | rw [unlessLocked_rest d hset, stopMotion_rest hdec, modDoor_rest] <;> intro _ <;> rfl

theorem holdStop_rest (d : Doorway) (s : State) : (holdStop dec d s).rest = s.rest := by
  unfold holdStop
  rw [unlessLocked_rest d fun s => by
    rw [setPending_rest hdec, modDoor_rest] <;> intro _ <;> rfl, stopMotion_rest hdec]

end Acting

@[simp] theorem endDeferral_rest (d : Doorway) (s : State) : (endDeferral d s).rest = s.rest := by
  unfold endDeferral
  split
  · rw [postPending_rest grantDecision_rest]; exact modDoor_rest s d fun _ => rfl
  · rfl

@[simp] theorem holdRises_rest (d : Doorway) (s : State) : (holdRises d s).rest = s.rest := by
  unfold holdRises
  dsimp only
  split
  · split
    · split
      · exact holdStop_rest grantDecision_rest d s
      · exact modDoor_rest s d fun _ => rfl
    · rfl
  · split
    · rfl
    · split
      · split
        · rw [grantDecision_rest, startDeferral_rest grantDecision_rest, removeRequest_rest]
        · rw [startDeferral_rest grantDecision_rest, removeWaiting_rest]
        all_goals rfl
      · rfl

@[simp] theorem leaveControl_rest (d : Doorway) (st : DoorState) (cause : Option FaultCause)
    (s : State) : (leaveControl d st cause s).rest = s.rest := by
  simp only [leaveControl, withdraw_rest grantDecision_rest, releaseGrant_rest grantDecision_rest,
    takeState_rest]
  exact modDoor_rest s d fun _ => rfl

@[simp] theorem enterFault_rest (d : Doorway) (cause : FaultCause) (s : State) :
    (enterFault d cause s).rest = s.rest := leaveControl_rest d .fault (some cause) s

@[simp] theorem haltAtLoss_rest (d : Doorway) (s : State) : (haltAtLoss d s).rest = s.rest := by
  unfold haltAtLoss
  dsimp only
  split <;> first
    | (rw [modDoor_rest] <;> intro _ <;> rfl)
    | (rw [takeState_rest, modDoor_rest, modDoor_rest] <;> intro _ <;> rfl)

/-! ### What arrives together with another event -/

/-- R46: a CLOSE that arrives with an obstruction has no effect on the doorway obstructed. -/
theorem actClose_of_spared {dec : State → State} {d : Doorway} {s : State}
    (h : spared s.time (s.door d) = true) : actClose dec d s = s := if_pos h

/-- What an obstruction of another moment leaves open to a CLOSE. -/
theorem spared_eq_false {now : Time} {r : Door} (h : r.obstructedAt ≠ some now) :
    spared now r = false := by simp [spared, h]

/-- When time passes, every doorway forgets what the moment left for events of that moment. -/
theorem timePasses_door (s : State) (d : Doorway) : (timePasses s).door d = (s.door d).momentOver := by
  cases d <;> rfl

/-- When time passes, nothing else changes but the time base. -/
theorem timePasses_keeps (s : State) : { timePasses s with time := s.time, doors := s.doors } = s := rfl

end Sys2Proof.Machine
end

