-- ==== Sys2Proof/Laws/Arbiter.lean ====
section
/-! SUPPORT. What the arbiter's operations can do: the head that is granted, the pair that becomes
active, the sums, the wait list, and when a decision does nothing. -/

namespace Sys2Proof.Machine

open Sys2Proof

/-! ### The decision -/

/-- R97: what the decision grants is the head of the urgent queue, or with that queue empty the head of
the ordinary one, and it can be granted. -/
theorem nextGrant_some {a : Arbiter} {e : Entry} (h : nextGrant a = some e) :
    a.supply = .healthy ∧ grantable a e = true ∧
      ((∃ tl, a.urgent = e :: tl) ∨ (a.urgent = [] ∧ ∃ tl, a.ordinary = e :: tl)) := by
  unfold nextGrant at h
  split at h
  · cases h
  · rename_i hs
    cases hu : a.urgent with
    | cons x tl =>
      simp only [hu] at h
      split at h
      · cases h; exact ⟨hs, ‹_›, .inl ⟨tl, rfl⟩⟩
      · cases h
    | nil =>
      cases ho : a.ordinary with
      | cons x tl =>
        simp only [hu, ho] at h
        split at h
        · cases h; exact ⟨hs, ‹_›, .inr ⟨rfl, tl, rfl⟩⟩
        · cases h
      | nil => simp [hu, ho] at h

theorem nextGrant_lost {a : Arbiter} (h : a.supply = .lost) : nextGrant a = none := by
  simp [nextGrant, h]

theorem grantDecision_of_none {s : State} (h : nextGrant s.arbiter = none) : grantDecision s = s := by
  simp [grantDecision, Config.decisionFuel, grantDecisionFuel, h]

/-- R9: with zero speed every motion may begin. -/
theorem mayBegin_of_zeroSpeed {s : State} {e : Entry} (h : s.zeroSpeed = true) : mayBegin s e = true := by
  simp [mayBegin, h]

/-- A CLOSE may begin with or without zero speed. -/
theorem mayBegin_of_toClose {s : State} {e : Entry} (h : e.motion = .toClose) : mayBegin s e = true := by
  simp [mayBegin, h]

/-- R9, log 7: a decision stops at a head whose motion may not begin. -/
theorem grantDecision_of_held {s : State} {e : Entry} (h : nextGrant s.arbiter = some e)
    (hb : mayBegin s e = false) : grantDecision s = s := by
  have stop : ∀ n, grantDecisionFuel n s = s := fun n => by
    cases n <;> simp only [grantDecisionFuel, h, Option.filter, hb, Bool.false_eq_true, if_false]
  exact stop _

/-- R105: while the supply is lost the decision grants nothing. -/
theorem grantDecision_lost {s : State} (h : s.arbiter.supply = .lost) : grantDecision s = s :=
  grantDecision_of_none (nextGrant_lost h)

/-- R97: a head that can be granted fits the active pair, and the pending pair while one stands. -/
theorem grantable_iff {a : Arbiter} {e : Entry} :
    grantable a e = true ↔ fitsPair a e a.active = true ∧ ∀ pr ∈ a.pair, fitsPair a e pr = true := by
  cases h : a.pair <;> simp [grantable, h]

theorem fitsPair_iff {a : Arbiter} {e : Entry} {pr : AllowancePair} :
    fitsPair a e pr = true ↔ a.heldTotal + e.amount ≤ pr.allowance ∧
      (e.cls = .ordinary → a.heldOrdinary + e.amount ≤ pr.allowance - pr.reserve) := by
  cases h : e.cls <;> simp [fitsPair, h]

/-! ### Pairs and sums -/

/-- R103: the pending pair becomes active, or the arbiter stays as it is. -/
theorem activatePair_cases (a : Arbiter) :
    activatePair a = a ∨
      ∃ pr, a.pair = some pr ∧ a.heldTotal ≤ pr.allowance ∧
        a.heldOrdinary ≤ pr.allowance - pr.reserve ∧
        activatePair a = { a with active := pr, pair := none } := by
  unfold activatePair
  split
  · exact .inl rfl
  · rename_i pr hp
    split
    · rename_i h
      exact .inr ⟨pr, hp, h.1, h.2, rfl⟩
    · exact .inl rfl

@[simp] theorem activatePair_heldTotal (a : Arbiter) :
    (activatePair a).heldTotal = a.heldTotal := by
  rcases activatePair_cases a with h | ⟨_, _, _, _, h⟩ <;> rw [h]
@[simp] theorem activatePair_heldOrdinary (a : Arbiter) :
    (activatePair a).heldOrdinary = a.heldOrdinary := by
  rcases activatePair_cases a with h | ⟨_, _, _, _, h⟩ <;> rw [h]
@[simp] theorem activatePair_urgent (a : Arbiter) : (activatePair a).urgent = a.urgent := by
  rcases activatePair_cases a with h | ⟨_, _, _, _, h⟩ <;> rw [h]
@[simp] theorem activatePair_ordinary (a : Arbiter) : (activatePair a).ordinary = a.ordinary := by
  rcases activatePair_cases a with h | ⟨_, _, _, _, h⟩ <;> rw [h]
@[simp] theorem activatePair_waiting (a : Arbiter) : (activatePair a).waiting = a.waiting := by
  rcases activatePair_cases a with h | ⟨_, _, _, _, h⟩ <;> rw [h]

/-- The settings hold the pair written last, active or pending (R102). -/
@[simp] theorem activatePair_written (a : Arbiter) : writtenPair (activatePair a) = writtenPair a := by
  rcases activatePair_cases a with h | ⟨pr, hp, _, _, h⟩ <;> rw [h]
  simp [writtenPair, hp]

@[simp] theorem giveBack_heldTotal (g : Grant) (a : Arbiter) :
    (giveBack g a).heldTotal = a.heldTotal - g.amount := rfl
@[simp] theorem giveBack_urgent (g : Grant) (a : Arbiter) : (giveBack g a).urgent = a.urgent := rfl
@[simp] theorem giveBack_ordinary (g : Grant) (a : Arbiter) :
    (giveBack g a).ordinary = a.ordinary := rfl
@[simp] theorem giveBack_waiting (g : Grant) (a : Arbiter) : (giveBack g a).waiting = a.waiting := rfl
@[simp] theorem giveBack_active (g : Grant) (a : Arbiter) : (giveBack g a).active = a.active := rfl
@[simp] theorem giveBack_pair (g : Grant) (a : Arbiter) : (giveBack g a).pair = a.pair := rfl

/-! ### Queues and the wait list -/

@[simp] theorem queue_setQueue_same (a : Arbiter) (c : GrantClass) (q : List Entry) :
    (a.setQueue c q).queue c = q := by cases c <;> rfl

theorem queue_setQueue_other (a : Arbiter) {c c' : GrantClass} (q : List Entry) (h : c' ≠ c) :
    (a.setQueue c q).queue c' = a.queue c' := by
  cases c <;> cases c' <;> first | rfl | exact absurd rfl h

/-- R94: the wait list gains the new entry and nothing else. -/
theorem mem_insertWaiting {e x : Entry} {l : List Entry} :
    x ∈ insertWaiting e l ↔ x = e ∨ x ∈ l := by
  induction l with
  | nil => simp [insertWaiting]
  | cons y l ih =>
    unfold insertWaiting
    split
    · simp
    · rw [List.mem_cons, List.mem_cons, ih]
      exact or_left_comm

theorem length_insertWaiting (e : Entry) (l : List Entry) :
    (insertWaiting e l).length = l.length + 1 := by
  induction l with
  | nil => rfl
  | cons y l ih =>
    unfold insertWaiting
    split
    · rfl
    · simp [ih]

/-! ### Operations that find nothing to do -/

theorem releaseGrant_none {dec : State → State} {d : Doorway} {s : State}
    (h : (s.door d).grant = none) : releaseGrant dec d s = s := by simp [releaseGrant, h]

theorem withdraw_none {dec : State → State} {d : Doorway} {s : State}
    (h : (s.door d).pendingMotion = none) : withdraw dec d s = s := by simp [withdraw, h]

/-- R7: a motion of the same kind and class leaves the pending motion where it stands. -/
theorem setPending_same {dec : State → State} {d : Doorway} {kind : Motion} {cls : GrantClass}
    {target : Option Nat} {s : State} {m : PendingMotion} (h : (s.door d).pendingMotion = some m)
    (hk : m.kind = kind) (hc : m.cls = cls) : setPending dec d kind cls target s = s := by
  simp [setPending, h, hk, hc]

/-- R7 case 1: with the supply lost a motion set where none stood stands UNPOSTED. -/
theorem setPending_lost {dec : State → State} {d : Doorway} {kind : Motion} {cls : GrantClass}
    {target : Option Nat} {s : State} (h : (s.door d).pendingMotion = none)
    (hs : s.arbiter.supply = .lost) :
    (setPending dec d kind cls target s).door d =
      { s.door d with
        pendingMotion := some { kind := kind, cls := cls, stand := .unposted, target := target } } := by
  simp [setPending, h, postPending, hs, setStanding]

end Sys2Proof.Machine
end

