-- ==== Sys2Proof/Laws/Character.lean ====
section
/-! SUPPORT. What a receiver does with the levels of a line: pauses pass, a character takes the eleven
levels from its falling edge, and space that no edge began starts none. -/

namespace Sys2Proof.Machine

open Sys2Proof

@[simp] theorem heard_nil (last : Bool) (held : List Bool) : heard last held [] = [] := rfl

/-- Mark between characters is a pause. -/
@[simp] theorem heard_mark (last : Bool) (line : List Bool) :
    heard last [] (true :: line) = heard true [] line := by simp [heard]

/-- Space after space starts no character. -/
@[simp] theorem heard_space (line : List Bool) :
    heard false [] (false :: line) = heard false [] line := by simp [heard]

/-- A pause of any length passes. -/
theorem receptions_pause (n : Nat) (line : List Bool) :
    receptions (List.replicate n true ++ line) = receptions line := by
  induction n with
  | zero => rfl
  | succ n ih =>
    rw [List.replicate_succ, List.cons_append]
    exact (heard_mark _ _).trans ih

/-- Space that lasts after a break or a damaged byte passes until the line is at mark again. -/
theorem heard_space_run (n : Nat) (line : List Bool) :
    heard false [] (List.replicate n false ++ true :: line) = receptions line := by
  induction n with
  | zero => exact heard_mark _ _
  | succ n ih =>
    rw [List.replicate_succ, List.cons_append]
    exact (heard_space _).trans ih

/-- A falling edge begins a character of eleven levels; the last of them is the level before the next. -/
theorem heard_eleven (b1 b2 b3 b4 b5 b6 b7 b8 b9 b10 : Bool) (line : List Bool) :
    receptions (false :: b1 :: b2 :: b3 :: b4 :: b5 :: b6 :: b7 :: b8 :: b9 :: b10 :: line) =
      classifyCharacter [false, b1, b2, b3, b4, b5, b6, b7, b8, b9, b10] :: heard b10 [] line := by
  simp [receptions, heard]

end Sys2Proof.Machine
end

