-- ==== Sys2Proof/Laws/PerInstr.lean ====
section
/-! SUPPORT. The families of statements about the commands as syntax, one lemma per constructor. -/

namespace Sys2Proof.Laws.Codes

open Sys2Proof Sys2Proof.Machine

/-- R140: the code of a command that a link carries names that command and no other, and one that is
issued whole brings exactly the parameter bytes that the command takes. -/
def Statement (i : Instr) : Prop :=
  ∀ x ∈ i.linkCommand,
    commandOf x.2.1.code = some x.2.1 ∧
      (i.issued = true → x.2.2.length = x.2.1.paramCount ∧ x.2.1.allowedOn x.1 = true)

/-- A row that no link carries. -/
theorem of_not_carried {i : Instr} (h : i.linkCommand = none) : Statement i := by
  intro x hx
  rw [h] at hx
  cases hx

/-- A row that a link carries. -/
theorem of_carried {i : Instr} {q : Port} {c : Command} {ps : List Byte}
    (h : i.linkCommand = some (q, c, ps)) (hc : commandOf c.code = some c) : Statement i := by
  intro x hx
  rw [h] at hx
  cases hx
  refine ⟨hc, fun hi => ?_⟩
  simp only [Instr.issued, h, Bool.and_eq_true, decide_eq_true_eq] at hi
  exact ⟨hi.2, hi.1⟩

theorem powerOn (levels : InputLevels) : Statement (.powerOn levels) := of_not_carried rfl
theorem supplyLoss : Statement (.supplyLoss) := of_not_carried rfl
theorem supplyRestore : Statement (.supplyRestore) := of_not_carried rfl
theorem zeroSpeedLoss : Statement (.zeroSpeedLoss) := of_not_carried rfl
theorem zeroSpeedRegain : Statement (.zeroSpeedRegain) := of_not_carried rfl
theorem positionReading (d : Doorway) (count : Nat) :
    Statement (.positionReading d count) := of_not_carried rfl
theorem currentSample (d : Doorway) (current : Int) :
    Statement (.currentSample d current) := of_not_carried rfl
theorem lockSwitchChange (d : Doorway) (locked : Bool) :
    Statement (.lockSwitchChange d locked) := of_not_carried rfl
theorem edgeChange (d : Doorway) (pressed : Bool) :
    Statement (.edgeChange d pressed) := of_not_carried rfl
theorem emergencyHandleOperated (d : Doorway) :
    Statement (.emergencyHandleOperated d) := of_not_carried rfl
theorem emergencyHandleRestored (d : Doorway) :
    Statement (.emergencyHandleRestored d) := of_not_carried rfl
theorem isolationOperated (d : Doorway) : Statement (.isolationOperated d) := of_not_carried rfl
theorem isolationRestored (d : Doorway) : Statement (.isolationRestored d) := of_not_carried rfl
theorem driveOvercurrent (d : Doorway) : Statement (.driveOvercurrent d) := of_not_carried rfl
theorem loopReturnChange (i : Side) (closed : Bool) :
    Statement (.loopReturnChange i closed) := of_not_carried rfl
theorem unlockTimerExpiry (d : Doorway) : Statement (.unlockTimerExpiry d) := of_not_carried rfl
theorem lockTimerExpiry (d : Doorway) : Statement (.lockTimerExpiry d) := of_not_carried rfl
theorem closeDeadlineExpiry (d : Doorway) : Statement (.closeDeadlineExpiry d) := of_not_carried rfl
theorem stallWatchExpiry (d : Doorway) : Statement (.stallWatchExpiry d) := of_not_carried rfl
theorem pauseTimerExpiry (d : Doorway) : Statement (.pauseTimerExpiry d) := of_not_carried rfl
theorem holdDeadlineExpiry (d : Doorway) : Statement (.holdDeadlineExpiry d) := of_not_carried rfl
theorem grantLate (d : Doorway) : Statement (.grantLate d) := of_not_carried rfl
theorem carSilenceExpiry : Statement (.carSilenceExpiry) := of_not_carried rfl
theorem silentDwellTimerExpiry : Statement (.silentDwellTimerExpiry) := of_not_carried rfl
theorem openWatchExpiry (i : Side) : Statement (.openWatchExpiry i) := of_not_carried rfl
theorem stuckWatchExpiry (i : Side) : Statement (.stuckWatchExpiry i) := of_not_carried rfl
theorem testStepExpiry (i : Side) : Statement (.testStepExpiry i) := of_not_carried rfl
theorem goodFrameDeadlineExpiry : Statement (.goodFrameDeadlineExpiry) := of_not_carried rfl
theorem saveDone : Statement (.saveDone) := of_not_carried rfl
theorem responseSent (port : Port) : Statement (.responseSent port) := of_not_carried rfl
theorem triggerSent : Statement (.triggerSent) := of_not_carried rfl
theorem unknownCommand (port : Port) (code : Byte) :
    Statement (.unknownCommand port code) := of_not_carried rfl
theorem strayParameterByte (port : Port) (byte : Byte) :
    Statement (.strayParameterByte port byte) := of_not_carried rfl
theorem lineBreak (port : Port) : Statement (.lineBreak port) := of_not_carried rfl
theorem damagedByte (port : Port) : Statement (.damagedByte port) := of_not_carried rfl
theorem presence (port : Port) : Statement (.presence port) := of_carried rfl (by decide)
theorem sideRelease (port : Port) (params : List Byte) :
    Statement (.sideRelease port params) := of_carried rfl (by decide)
theorem withdrawRelease (port : Port) (params : List Byte) :
    Statement (.withdrawRelease port params) := of_carried rfl (by decide)
theorem carOpen (port : Port) (params : List Byte) :
    Statement (.carOpen port params) := of_carried rfl (by decide)
theorem carClose (port : Port) (params : List Byte) :
    Statement (.carClose port params) := of_carried rfl (by decide)
theorem forcedClose (port : Port) (params : List Byte) :
    Statement (.forcedClose port params) := of_carried rfl (by decide)
theorem loopTest (port : Port) (params : List Byte) :
    Statement (.loopTest port params) := of_carried rfl (by decide)
theorem standDown (port : Port) : Statement (.standDown port) := of_carried rfl (by decide)
theorem setAllowance (port : Port) (params : List Byte) :
    Statement (.setAllowance port params) := of_carried rfl (by decide)
theorem readDoorway (port : Port) (params : List Byte) :
    Statement (.readDoorway port params) := of_carried rfl (by decide)
theorem readCarSummary (port : Port) :
    Statement (.readCarSummary port) := of_carried rfl (by decide)
theorem readAttention (port : Port) : Statement (.readAttention port) := of_carried rfl (by decide)
theorem readHistory (port : Port) (params : List Byte) :
    Statement (.readHistory port params) := of_carried rfl (by decide)
theorem serviceMode (port : Port) (params : List Byte) :
    Statement (.serviceMode port params) := of_carried rfl (by decide)
theorem localOpen (port : Port) (params : List Byte) :
    Statement (.localOpen port params) := of_carried rfl (by decide)
theorem localClose (port : Port) (params : List Byte) :
    Statement (.localClose port params) := of_carried rfl (by decide)
theorem writeProfile (port : Port) (params : List Byte) :
    Statement (.writeProfile port params) := of_carried rfl (by decide)
theorem writeCarSettings (port : Port) (params : List Byte) :
    Statement (.writeCarSettings port params) := of_carried rfl (by decide)
theorem readProfile (port : Port) (params : List Byte) :
    Statement (.readProfile port params) := of_carried rfl (by decide)
theorem setCursor (port : Port) (params : List Byte) :
    Statement (.setCursor port params) := of_carried rfl (by decide)
theorem readReferences (port : Port) (params : List Byte) :
    Statement (.readReferences port params) := of_carried rfl (by decide)
theorem resetReferences (port : Port) (params : List Byte) :
    Statement (.resetReferences port params) := of_carried rfl (by decide)
theorem clearHistory (port : Port) (params : List Byte) :
    Statement (.clearHistory port params) := of_carried rfl (by decide)
theorem saveSettings (port : Port) : Statement (.saveSettings port) := of_carried rfl (by decide)
theorem restore (port : Port) (params : List Byte) :
    Statement (.restore port params) := of_carried rfl (by decide)
theorem restart (port : Port) : Statement (.restart port) := of_carried rfl (by decide)
theorem platformStatus (port : Port) (params : List Byte) :
    Statement (.platformStatus port params) := of_carried rfl (by decide)
theorem armTriggers (port : Port) (params : List Byte) :
    Statement (.armTriggers port params) := of_carried rfl (by decide)
theorem linkReset (port : Port) : Statement (.linkReset port) := of_carried rfl (by decide)
theorem driveOvercurrentCleared (d : Doorway) :
    Statement (.driveOvercurrentCleared d) := of_not_carried rfl
theorem partPowerLoss : Statement (.partPowerLoss) := of_not_carried rfl

end Sys2Proof.Laws.Codes
end

