-- ==== Sys2Proof/Laws/Ports.lean ====
section
/-! SUPPORT. How a command that arrives whole reaches its block: `commandArrives` is the block's meaning on
the state in which the command byte was heard. -/

namespace Sys2Proof.Machine

open Sys2Proof

/-- The three commands whose fields are applied as they arrive (R143). -/
def Command.setting : Command → Bool
  | .setAllowance | .writeProfile | .writeCarSettings => true
  | _ => false

theorem applyArrived_of_not_setting {q : Port} {c : Command} (h : c.setting = false)
    (ps : List Byte) (s : State) : applyArrived q c ps s = s := by
  cases c <;> first | rfl | cases h

@[simp] theorem setContext_setContext (q : Port) (a b : Context) (s : State) :
    setContext q a (setContext q b s) = setContext q a s := by cases q <;> rfl

@[simp] theorem setContext_port (q : Port) (a : Context) (s : State) :
    ((setContext q a s).port q).context = a := by cases q <;> rfl

theorem setContext_same {q : Port} {a : Context} {s : State} (h : (s.port q).context = a) :
    setContext q a s = s := by subst h; cases q <;> rfl

/-- R141: once a context has ended, the port's context is NONE. -/
theorem endContext_context (q : Port) (s : State) : ((endContext q s).port q).context = .idle := by
  unfold endContext
  split
  · cases q <;> rfl
  · exact setContext_port _ _ _
  · exact setContext_port _ _ _

theorem arrived_context (q : Port) (s : State) : ((arrived q s).port q).context = .idle :=
  endContext_context _ _

/-- R140: the last parameter of a command that applies no fields hands the command to its block. -/
theorem foldl_receiveParameter {q : Port} {c : Command} (h : c.setting = false) :
    ∀ (bytes acc : List Byte) (s : State), bytes ≠ [] →
      acc.length + bytes.length = c.paramCount → (s.port q).context = .collecting c acc →
      bytes.foldl (fun s b => receiveParameter q b s) s =
        handCommand q c (acc ++ bytes) (setContext q .idle s)
  | [], _, _, hne, _, _ => absurd rfl hne
  | [b], acc, s, _, hl, hs => by
    have hl' : c.paramCount ≤ (acc ++ [b]).length := by simp_all
    simp [receiveParameter, hs, applyArrived_of_not_setting h, ← hl]
  | b :: b' :: bytes, acc, s, _, hl, hs => by
    have hl' : ¬ c.paramCount ≤ (acc ++ [b]).length := by simp at hl ⊢; omega
    rw [List.foldl_cons]
    have hstep : receiveParameter q b s = setContext q (.collecting c (acc ++ [b])) s := by
      simp only [receiveParameter, hs, applyArrived_of_not_setting h]
      rw [if_neg hl']
    rw [hstep, foldl_receiveParameter h (b' :: bytes) (acc ++ [b]) _ (by simp)
      (by simp at hl ⊢; omega) (setContext_port _ _ _)]
    simp

/-- R140, R142: a demand or a read that arrives whole on a port that may issue it is its block's meaning,
on the state in which its command byte was heard. -/
theorem commandArrives_whole {q : Port} {c : Command} {ps : List Byte} {s : State}
    (hq : c.allowedOn q = true) (hset : c.setting = false) (hl : ps.length = c.paramCount) :
    commandArrives q c ps s = handCommand q c ps (arrived q s) := by
  have hc : commandOf c.code = some c := by cases c <;> decide
  have hrec : receiveCommandByte q c.code s =
      if c.paramCount = 0 then handCommand q c [] (arrived q s)
      else setContext q (.collecting c []) (arrived q s) := by
    simp only [receiveCommandByte, examineCode, hc, hq, arrived]
    split
    · rename_i h; cases h
    · split
      · rw [setContext_same (endContext_context _ _)]
      · rfl
  unfold commandArrives
  rw [hrec]
  split
  · rename_i h0
    have : ps = [] := List.eq_nil_of_length_eq_zero (hl.trans h0)
    subst this
    rfl
  · rename_i h0
    have hne : ps ≠ [] := by
      intro h; subst h; exact h0 hl.symm
    rw [foldl_receiveParameter hset ps [] _ hne (by simpa using hl) (setContext_port _ _ _)]
    simp [setContext_same (arrived_context q s)]

/-- R142: a command that the port may not issue is refused at its command byte, and its parameters are
discarded. -/
theorem commandArrives_refused {q : Port} {c : Command} {ps : List Byte} {s : State}
    (hq : c.allowedOn q = false) :
    commandArrives q c ps s = setContext q .discarding (countRefused q c.code (arrived q s)) := by
  have hc : commandOf c.code = some c := by cases c <;> decide
  have hrec : receiveCommandByte q c.code s =
      setContext q .discarding (countRefused q c.code (arrived q s)) := by
    simp only [receiveCommandByte, examineCode, hc, hq, arrived]
    rfl
  unfold commandArrives
  rw [hrec]
  induction ps with
  | nil => rfl
  | cons b ps ih =>
    rw [List.foldl_cons]
    have : receiveParameter q b (setContext q .discarding (countRefused q c.code (arrived q s))) =
        setContext q .discarding (countRefused q c.code (arrived q s)) := by
      simp [receiveParameter]
    rw [this]
    exact ih

/-! ### Receive contexts -/

@[simp] theorem Context.fits_idle (q : Port) : Context.fits q .idle = true := rfl
@[simp] theorem Context.fits_discarding (q : Port) : Context.fits q .discarding = true := rfl
@[simp] theorem Context.fits_collecting (q : Port) (c : Command) (received : List Byte) :
    Context.fits q (.collecting c received) = true ↔
      c.allowedOn q = true ∧ received.length < c.paramCount := by
  simp [Context.fits]

end Sys2Proof.Machine
end

