-- ==== Sys2Proof/Laws/SideProof.lean ====
section
/-! SUPPORT. Attention entries as they stand after they are raised, and the proof of a side after it has
been computed. -/

namespace Sys2Proof.Machine

open Sys2Proof

/-! ### Attention -/

/-- R152: what a raise leaves of both sets. -/
theorem raiseBoth_ports (f : AttentionSet → AttentionSet) (s : State) :
    (raiseBoth f s).ports =
      { s.ports with
        car := { s.ports.car with attention := f s.ports.car.attention }
        service := { s.ports.service with attention := f s.ports.service.attention } } := rfl

/-- R152: a raise touches the ports alone. -/
theorem raiseBoth_eq (f : AttentionSet → AttentionSet) (s : State) :
    raiseBoth f s = { s with ports := (raiseBoth f s).ports } := rfl

@[simp] theorem raiseBoth_door (f : AttentionSet → AttentionSet) (s : State) (d : Doorway) :
    (raiseBoth f s).door d = s.door d := rfl
@[simp] theorem raiseBoth_side (f : AttentionSet → AttentionSet) (s : State) (i : Side) :
    (raiseBoth f s).side i = s.side i := rfl

/-- R152: an entry that every set takes when it is raised stands in both sets. -/
theorem inBothSets_raiseBoth {f : AttentionSet → AttentionSet} {P : AttentionSet → Prop} (s : State)
    (h : ∀ a, P (f a)) : InBothSets (raiseBoth f s) P := ⟨h _, h _⟩

theorem inBothSets_raiseState (d : Doorway) (st : DoorState) (s : State) :
    InBothSets (raiseState d st s) fun a => a.state.get d = some st :=
  inBothSets_raiseBoth s fun _ => PerDoorway.get_set_same _ _ _

theorem inBothSets_raiseObstruction (d : Doorway) (s : State) :
    InBothSets (raiseObstruction d s) fun a => a.obstruction.get d = true :=
  inBothSets_raiseBoth s fun _ => PerDoorway.get_set_same _ _ _

theorem inBothSets_raiseOpenRefused (d : Doorway) (g : Gate) (s : State) :
    InBothSets (raiseOpenRefused d g s) fun a => a.openRefused.get d = some g :=
  inBothSets_raiseBoth s fun _ => PerDoorway.get_set_same _ _ _

theorem inBothSets_raiseSideProof (i : Side) (s : State) :
    InBothSets (raiseSideProof i s) fun a => a.sideProof.get i = true :=
  inBothSets_raiseBoth s fun _ => PerSide.get_set_same _ _ _

/-- R155: the state after a refusal is counted. -/
theorem refused_countRefused (q : Port) (code : Byte) (s : State) :
    Refused q code s (countRefused q code s) := by cases q <;> exact ⟨rfl, rfl⟩

/-- R144: counting a clamp. -/
theorem clampCounted_true (q : Port) (s : State) : clampCounted q true s = countClamped q s := by
  cases q <;> rfl

theorem clampCounted_false (q : Port) (s : State) : clampCounted q false s = s := rfl

/-! ### The proof of a side -/

theorem triggers_side (kind : TriggerKind) (i j : Side) (s : State) :
    (queueTrigger kind i s).side j = s.side j := by
  unfold queueTrigger
  split <;> rfl

theorem examineSide_proof (i j : Side) (s : State) :
    ((examineSide i s).side j).proof = (s.side j).proof := by
  unfold examineSide
  split
  · rfl
  · cases i <;> cases j <;> rfl

theorem driveOutput_proof (i j : Side) (level : Bool) (s : State) :
    ((driveOutput i level s).side j).proof = (s.side j).proof := by
  unfold driveOutput
  split
  · rfl
  · rw [examineSide_proof]
    cases i <;> cases j <;> rfl

/-- R112: after the computation the proof field is the proof as computed. -/
theorem recomputeProof_proof (i : Side) (s : State) :
    ((recomputeProof i s).side i).proof = proofHolds s i := by
  unfold recomputeProof
  dsimp only
  split
  · rename_i h; exact h.symm
  · have hset : ((s.modSide i fun r => { r with proof := proofHolds s i }).side i).proof =
        proofHolds s i := by rw [State.side_modSide_same]
    have hraise : ∀ u : State, ((raiseSideProof i u).side i).proof = (u.side i).proof :=
      fun _ => rfl
    split <;> split <;>
      simp only [triggers_side, hraise, driveOutput_proof, hset]

/-- R112: a proof that is as computed already is left alone. -/
theorem recomputeProof_of_eq {i : Side} {s : State} (h : proofHolds s i = (s.side i).proof) :
    recomputeProof i s = s := by simp [recomputeProof, h]

/-- R121: with no test running an abort does nothing. -/
theorem abortTest_of_not_running {i : Side} {s : State} (h : (s.side i).verdict ≠ .running) :
    abortTest i s = s := by simp [abortTest, h]

/-- R115: an open loop is reported and the proof is left as it is. -/
theorem declareLoopOpen_proof (i j : Side) (s : State) :
    ((declareLoopOpen i s).side j).proof = (s.side j).proof := by
  cases i <;> cases j <;> rfl

end Sys2Proof.Machine
end

