-- ==== Sys2Proof/Tests/Slice0.lean ====
section
/-! SUPPORT. Tests: ill-formed terms that the checks refuse, values that the manual's tables and worked
examples give, one step of a command on a small state, and for every statement with hypotheses a state
that meets them. -/

namespace Sys2Proof.Tests

open Sys2Proof Sys2Proof.Machine

/-- The state after a command. -/
def ran (c : Instr) (s : State) : State :=
  match exec c s with
  | .next t => t
  | .fault _ => s
  | .refused _ => s

/-- The state after reset with another record at D1. -/
def withD1 (f : Door → Door) : State := State.reset.modDoor .D1 f

/-- The reset state at the open position: D1 OPEN at 720. -/
def opened (r : Door) : Door :=
  { r with state := .opened, p := 720, inputs := { r.inputs with lockLocked := false } }

/-- D1 under way in a state, with the attempt of its default profile and a grant. -/
def moving (st : DoorState) (kind : Motion) (p : Nat) (r : Door) : Door :=
  { r with
    state := st, p := p, attempt := some (latch 0 r kind 300 none false)
    grant := some { amount := 35, cls := .ordinary }
    inputs := { r.inputs with lockLocked := false }, stallWatch := some { reference := p, deadline := 0 }
    closeDeadline := some 0, lockTimer := some 0, unlockTimer := some 0, motionCap := 500 }

/-! ### Well-formedness -/

theorem test_surplus_parameter_refused : Instr.wellFormed (.carOpen .car [1, 2]) = false := by decide
theorem test_known_code_refused : Instr.wellFormed (.unknownCommand .car 0x13) = false := by decide
theorem test_response_on_platform_refused : Instr.wellFormed (.responseSent .platform) = false := by
  decide
theorem test_part_of_a_command_accepted : Instr.wellFormed (.setAllowance .car [1]) = true := by decide

/-! ### Tables and worked examples of the manual -/

/-- R28's table, first row. -/
theorem test_kinetic_cap_default : kineticCap Profile.default = 577 := by decide
/-- R29's table for the default profile. -/
theorem test_closing_speeds_default :
    (List.range 7).map (closingSpeed Profile.default) = [400, 300, 225, 168, 126, 100, 100] := by decide
/-- R31's examples. -/
theorem test_force_examples : forceOf 1028 0 255 = 1023 ∧ forceOf 1100 0 255 = 1023 := by decide
/-- R158's check of the arithmetic. -/
theorem test_crc_examples : crc [0x50] = 0xB7 ∧
    crc [0x31, 0x32, 0x33, 0x34, 0x35, 0x36, 0x37, 0x38, 0x39] = 0xF4 := by
  decide +kernel
/-- Section 11.3: panel byte C1h of a side-B frame, and the faced mask 05h. -/
theorem test_panel_byte :
    (List.range 4).map (framePanel ⟨1, 5, 0xC1, 0, 0, 0⟩) =
      [.opening, .closed, .closed, .obstructed] := by decide
/-- R119: A5h then C3h, most significant bit first. -/
theorem test_pattern : (List.range 16).map patternBit =
    ((List.range 16).map fun n => (0xA5C3#16).getLsbD (15 - n)) := by decide
/-- Chapter 8's second worked example, D3: Pz 10 sent with Lstroke 700. -/
theorem test_profile_clamp : clampField Profile.default 2 10 = 20 ∧
    (setField Profile.default 5 90).vfloor = 90 ∧ clampField Profile.default 18 800 = 720 := by decide
/-- R168: the gap of SilentCloseDelay. -/
theorem test_silent_delay_gap : clampSilentDelay 1 = 10 ∧ clampSilentDelay 9 = 10 ∧
    clampSilentDelay 0 = 0 ∧ clampSilentDelay 301 = 300 := by decide
/-- R70: the wrap of the counter. -/
theorem test_newer_wraps : newer 0 65535 = true ∧ newer 65535 0 = false ∧ newer 5 5 = false ∧
    newer 0x8000 0 = false ∧ newer 0x7FFF 0 = true := by decide
/-- R180: the answer to a zero mask. -/
theorem test_zero_mask_answer : readDoorwayBody State.reset 0 = List.replicate 144 0 := rfl
/-- Section 11.4: the lengths of the responses at reset. -/
theorem test_response_lengths :
    (doorwayBody State.reset .D1).length = 144 ∧ (carSummaryBody State.reset).length = 45 ∧
      (profileBody State.reset .D1).length = 53 ∧ (historyBody State.reset .D1).length = 3 := by
  decide +kernel

/-- R178: 41h as a parameter byte after a pause, then 12h as a command byte back to back. -/
theorem test_line_is_heard :
    receptions
        ([true, true, true] ++ [false, true, false, false, false, false, false, true, false, false, true] ++
          [false, false, true, false, false, true, false, false, false, true, true] ++ [true]) =
      [.parameterByte 0x41, .commandByte 0x12] := by decide
/-- R178: an idle line is no character, and a break ends where the line returns to mark. -/
theorem test_idle_and_break :
    receptions (List.replicate 40 true) = [] ∧
      receptions (List.replicate 25 false ++ [true, true]) = [.broken] := by decide

/-! ### One step on a small state -/

/-- R173 at the levels of log 3: what `State.reset` writes out is what POWER_ON leaves. -/
theorem test_reset_is_power_on : ran (.powerOn InputLevels.quiet) State.reset = State.reset := by
  decide +kernel
/-- R74: no release. -/
theorem test_open_refused : (ran (.carOpen .car [1]) State.reset).ports.car.attention.openRefused.d1 =
    some .release := by decide
/-- R72, R74, R94, R98, R9: release, OPEN, grant of Aopen 40, UNLOCKING. -/
theorem test_open_begins :
    let t := ran (.carOpen .car [1]) (ran (.sideRelease .car [0, 2]) State.reset)
    t.doors.d1.state = .unlocking ∧ t.doors.d1.grant = some ⟨40, .ordinary⟩ ∧
      t.arbiter.heldTotal = 40 ∧ t.sides.a.proof = false ∧ t.doors.d1.carStamp = 2 := by decide
/-- R11: the switch frees the leaf. -/
theorem test_unlock : (ran (.lockSwitchChange .D1 false)
    (withD1 fun r => { r with state := .unlocking })).doors.d1.state = .opening := by decide
/-- R13: the opening ends at Lstroke - 5. -/
theorem test_opening_ends :
    (ran (.positionReading .D1 (715 * 8)) (withD1 (moving .opening .toOpen 700))).doors.d1.state =
        .opened ∧
      (ran (.positionReading .D1 (715 * 8 - 1)) (withD1 (moving .opening .toOpen 700))).doors.d1.state =
        .opening := by decide
/-- R17: the lock window begins at 3 mm. -/
theorem test_closing_ends :
    (ran (.positionReading .D1 31) (withD1 (moving .closing .toClose 10))).doors.d1.state = .locking ∧
      (ran (.positionReading .D1 32) (withD1 (moving .closing .toClose 10))).doors.d1.state =
        .closing := by decide
/-- R4: 50 mm is plausible, 51 mm is not. -/
theorem test_jump :
    (ran (.positionReading .D1 (250 * 8)) (withD1 (moving .closing .toClose 300))).doors.d1.p = 250 ∧
      (ran (.positionReading .D1 (249 * 8)) (withD1 (moving .closing .toClose 300))).doors.d1.faultCause =
        some .positionImplausible := by decide
/-- R37, R43, R44: the edge obstructs at EdgeMute and not below. -/
theorem test_edge :
    (ran (.edgeChange .D1 true) (withD1 (moving .closing .toClose 15))).doors.d1.lastCause =
        some .edge ∧
      (ran (.edgeChange .D1 true) (withD1 (moving .closing .toClose 14))).doors.d1.lastCause = none := by
  decide
/-- R135, R112: a latch that lets go. -/
theorem test_lock_lost :
    let t := ran (.lockSwitchChange .D1 false) State.reset
    t.doors.d1.faultCause = some .lockLost ∧ t.sides.a.output = false ∧ t.sides.b.output = true := by
  decide
/-- R87: the loss of zero speed sends an open doorway home, URGENT. -/
theorem test_zero_speed_loss :
    let t := ran .zeroSpeedLoss (withD1 opened)
    t.doors.d1.carKind = .zeroSpeedClose ∧ t.doors.d1.state = .closing ∧
      t.doors.d1.grant = some ⟨35, .urgent⟩ := by decide
/-- R108: a HALTED doorway at the open position granted its OPEN is OPEN at the grant. -/
theorem test_halted_opening_ends_at_its_grant :
    let s := withD1 fun r => { opened r with
      state := .halted, p := 715
      pendingMotion := some { kind := .toOpen, cls := .ordinary, stand := .unposted, target := none } }
    (ran .supplyRestore { s with arbiter := { s.arbiter with supply := .lost } }).doors.d1.state =
      .opened := by decide
/-- R171: a write takes more than 0 ms. -/
theorem test_a_write_takes_time :
    let t := ran (.saveSettings .service) State.reset
    (ran .saveDone t).store.busySince = some 0 ∧
      (ran .saveDone { t with time := 1 }).store.busySince = none := by decide +kernel
/-- R46, first row: an OPEN taken before the over-limit sample of the same moment leaves no record, and the
sample of the next millisecond is judged in the OPENING that the OPEN has begun. -/
theorem test_sample_after_open :
    let s := (withD1 (moving .closing .toClose 300)).modSide .A fun r => { r with release := .unscreened }
    let t := ran (.carOpen .car [1]) s
    t.doors.d1.state = .opening ∧ (ran (.currentSample .D1 9000) t).doors.d1.history = [] ∧
      (ran (.currentSample .D1 9000) { t with time := 1 }).doors.d1.history.length = 1 := by decide +kernel
/-- R42: the sample taken after the edge press of the same moment leaves no second record. -/
theorem test_sample_after_edge :
    let t := ran (.edgeChange .D1 true) (withD1 (moving .closing .toClose 300))
    t.doors.d1.state = .reopening ∧ t.doors.d1.history.length = 1 ∧
      ran (.currentSample .D1 9000) t = t := by decide +kernel
/-- R108: a supply loss halts a reversal that was granted before it, in the moment of its obstruction too; one
that waits stands UNPOSTED (R46). -/
theorem test_supply_loss_with_obstruction :
    let closing := withD1 (moving .closing .toClose 300)
    let s := ran (.edgeChange .D1 true) closing
    let full := ran (.edgeChange .D1 true)
      { closing with arbiter := { closing.arbiter with heldTotal := 200 } }
    s.doors.d1.state = .reopening ∧ (ran .supplyLoss s).doors.d1.state = .halted ∧
      full.doors.d1.state = .stopped ∧ (ran .supplyLoss full).doors.d1.state = .stopped ∧
      (ran .supplyLoss full).doors.d1.pendingMotion =
        some { kind := .reopen, cls := .urgent, stand := .unposted, target := some 550 } := by decide

/-- R18, R19: the lock timer's expiry is taken first, and the locked reading of that moment relatches; the
reading of the next millisecond finds REOPENING (R45). -/
theorem test_locked_with_expiry :
    let s := ran (.lockTimerExpiry .D1) (withD1 (moving .locking .toClose 3))
    let t := ran (.lockSwitchChange .D1 true) s
    s.doors.d1.state = .reopening ∧ t.doors.d1.state = .locked ∧ t.doors.d1.k = 0 ∧
      t.doors.d1.grant = none ∧ t.doors.d1.history.length = 1 ∧
      (ran (.lockSwitchChange .D1 true) (timePasses s)).doors.d1.state = .reopening := by decide

/-- R46: a CLOSE that arrives with an obstruction has no effect, whether its FULL_REOPEN has ended at once or
its reversal waits. -/
theorem test_close_with_obstruction :
    let obstructed := fun (p k : Nat) (supply : SupplyView) =>
      ran (.stallWatchExpiry .D1)
        { withD1 (fun r => { moving .closing .toClose p r with k := k, openAttempts := 1 }) with
          arbiter := { State.reset.arbiter with supply := supply } }
    let ended := obstructed 720 3 .healthy
    let waits := obstructed 300 0 .lost
    let close := ran (.carClose .car [1])
    ended.doors.d1.state = .obstructedOpen ∧ (close ended).doors.d1.state = .obstructedOpen ∧
      (close ended).doors.d1.carKind = .closeDemand ∧
      (close (timePasses ended)).doors.d1.state = .closing ∧ waits.doors.d1.state = .stopped ∧
      (close waits).doors.d1.openAttempts = 1 ∧
      (close (timePasses waits)).doors.d1.openAttempts = 0 := by decide +kernel

/-- R26, R46: the loss of zero speed that arrives with an obstruction keeps k where the reversal is not yet
granted; where the FULL_REOPEN has ended in OBSTRUCTED_OPEN it takes k to 0. -/
theorem test_zero_speed_loss_with_obstruction :
    let ended := ran (.stallWatchExpiry .D1)
      { withD1 (fun r => { moving .closing .toClose 720 r with k := 3 }) with
        settings := { State.reset.settings with aclose := 200 } }
    let waits := { withD1 fun r =>
        { r with state := .stopped, p := 300, k := 2, obstructedAt := some 0
                 pendingMotion := some ⟨.reopen, .urgent, .unposted, some 550⟩ } with
        arbiter := { State.reset.arbiter with supply := .lost } }
    ended.doors.d1.state = .obstructedOpen ∧ ended.doors.d1.k = 4 ∧
      (ran .zeroSpeedLoss ended).doors.d1.k = 0 ∧
      (ran .zeroSpeedLoss waits).doors.d1.k = 2 := by decide +kernel

/-- R12: the expiry is taken first, and the unlocked reading of that moment is a lost lock, but after a CLOSE and
a new OPEN the success of a new unlock (R11, R135). -/
theorem test_unlocked_with_expiry :
    let s := ran (.unlockTimerExpiry .D1)
      ((withD1 fun r => { r with state := .unlocking, unlockTimer := some 0, coil := true }).modSide .A
        fun r => { r with release := .unscreened })
    let anew := ran (.carOpen .car [1]) (ran (.carClose .car [1]) s)
    let unlocked := ran (.lockSwitchChange .D1 false)
    s.doors.d1.state = .unlocking ∧ (unlocked s).doors.d1.faultCause = some .lockLost ∧
      (unlocked (timePasses s)).doors.d1.state = .opening ∧ anew.doors.d1.state = .unlocking ∧
      (unlocked anew).doors.d1.state = .opening := by decide +kernel

/-- R1: a CLOSE that acts on a STOPPED doorway with a CLOSE pending clears the open-attempt count. -/
theorem test_close_clears_attempts :
    let s : State :=
      { withD1 fun r => { opened r with
          state := .stopped, openAttempts := 1
          pendingMotion := some { kind := .toClose, cls := .urgent, stand := .unposted, target := none } }
        with arbiter := { State.reset.arbiter with supply := .lost } }
    (ran (.carClose .car [1]) s).doors.d1.openAttempts = 0 ∧
      (ran (.carClose .car [1]) s).doors.d1.pendingMotion = s.doors.d1.pendingMotion := by decide

/-- R105: a lost supply halts a motion. -/
theorem test_supply_loss :
    let t := ran .supplyLoss (withD1 (moving .closing .toClose 300))
    t.doors.d1.state = .halted ∧ t.doors.d1.grant = none ∧ t.arbiter.heldTotal = 0 := by decide
/-- R102: the reserve is brought down to a lower allowance. -/
theorem test_allowance :
    let t := ran (.setAllowance .car [0, 30, 0, 40]) State.reset
    t.settings.allowance = 30 ∧ t.settings.reserve = 30 ∧ t.arbiter.active = ⟨30, 30⟩ ∧
      t.ports.car.counts.clamped = 1 := by decide +kernel
/-- Chapter 8's first worked example: a break cuts OPEN short, and two parameter bytes are stray. -/
theorem test_damaged_exchange :
    let t := ran (.strayParameterByte .car 1) (ran (.lineBreak .car) (ran (.carOpen .car []) State.reset))
    t.ports.car.counts.truncated = 1 ∧ t.ports.car.counts.stray = 1 ∧ t.ports.car.context = .idle := by
  decide
/-- R166: LINK RESET from ACQUIRING. -/
theorem test_link_reset :
    (ran (.linkReset .platform)
      { State.reset with link := { State.reset.link with lock := .acquiring } }).ports.car.attention.platformLink =
        some .unlocked := by decide
/-- R175: the START entry after a power-on makes STAND DOWN void. -/
theorem test_stand_down_void : (ran (.standDown .car) State.reset).ports.car.counts.void = 1 := by decide
/-- R67: the ring wraps from D8 segment 31 to D1 segment 0. -/
theorem test_cursor_wraps :
    (ran (.readReferences .service [2]) { State.reset with cursor := ⟨.D8, 31⟩ }).cursor = ⟨.D1, 1⟩ := by
  decide
/-- R118, R120: the first bit of the pattern, and a test of a broken loop fails. -/
theorem test_loop_test_starts :
    let t := ran (.loopTest .car [0]) State.reset
    t.sides.a.output = true ∧ t.sides.a.proof = false ∧ t.sides.a.verdict = .running ∧
      t.sides.a.stepDeadline = some 20 := by decide
/-- R52, R53: CLEAR HISTORY keeps the last obstruction cause. -/
theorem test_clear_history :
    let t := ran (.clearHistory .service [1]) (withD1 fun r => { r with overflow := 3, lastCause := some .edge })
    t.doors.d1.overflow = 0 ∧ t.doors.d1.lastCause = some .edge := by decide

/-! ### States that meet the hypotheses of the statements -/

theorem requestSound_of {s : State} {r : Door} (hu : s.arbiter.urgent = [])
    (ho : s.arbiter.ordinary = []) (hw : s.arbiter.waiting = [])
    (hd : s.doors = State.reset.doors.set .D1 r) (hg : r.grant.isSome = true → r.state.moving = true)
    (hp : r.pendingMotion.isSome = true → r.state.moving = false ∧ r.state.outOfControl = false) :
    RequestSound s := by
  refine ⟨by simp [hu], by simp [ho], by simp [hw], by simp [Arbiter.entries, hu, ho, hw], fun d => ?_⟩
  rw [State.door, hd]
  cases d
  · exact ⟨hg, hp⟩
  all_goals
    constructor <;>
    · intro h
      change false = true at h
      cases h

theorem requestSound_withD1 (f : Door → Door)
    (hg : (f Door.afterPowerOn).grant.isSome = true → (f Door.afterPowerOn).state.moving = true)
    (hp : (f Door.afterPowerOn).pendingMotion.isSome = true →
      (f Door.afterPowerOn).state.moving = false ∧ (f Door.afterPowerOn).state.outOfControl = false) :
    RequestSound (withD1 f) := requestSound_of rfl rfl rfl rfl hg hp

theorem requestSound_reset : RequestSound State.reset :=
  requestSound_withD1 id (by decide) (by decide)

/-- A state with a command at the front of its queue. -/
def busy : State := { State.reset with pending := [.supplyLoss] }

/-- A part without zero speed, with an open doorway closing by the zero-speed close. -/
def rolling : State := { busy with zeroSpeed := false }

/-- A part with its supply lost. -/
def dark : State := { busy with arbiter := { busy.arbiter with supply := .lost } }

/-- A part with its platform link in a state of lock, its deadline reached. -/
def linked (l : LockState) : State :=
  { State.reset with link := { State.reset.link with lock := l, deadline := some 0 } }

theorem witness_StepRunsTheFrontCommand : busy.pending = Instr.supplyLoss :: [] := rfl

theorem witness_AnEmptyQueueLetsTimePass :
    State.reset.pending = [] ∧ State.reset.powered = true ∧
      ((timers State.reset).all fun x => !due State.reset.time x.1) = true ∧
      (timers { State.reset with time := 1000 }).find? (fun x => due 1000 x.1) =
        some (some 1000, .carSilenceExpiry) ∧
      ({ State.reset with powered := false } : State).powered = false := by decide

theorem witness_AnUnpoweredPartAnswersPowerOnAlone :
    ({ State.reset with powered := false } : State).powered = false ∧
      ∀ levels : InputLevels, Instr.supplyLoss ≠ .powerOn levels := by
  refine ⟨rfl, fun levels h => ?_⟩
  cases h

theorem busy_steps : ∃ t, step busy = .next t := ⟨_, rfl⟩
theorem rolling_steps : ∃ t, step rolling = .next t := ⟨_, rfl⟩
theorem dark_steps : ∃ t, step dark = .next t := ⟨_, rfl⟩

theorem witness_EveryStepKeepsTheProofsSound : ProofSound busy ∧ ∃ t, step busy = .next t :=
  ⟨fun i => by cases i <;> decide, busy_steps⟩

theorem witness_EveryStepKeepsLockedDoorwaysLatched : LockSound busy ∧ ∃ t, step busy = .next t :=
  ⟨fun d => by cases d <;> decide, busy_steps⟩

theorem requestSound_busy : RequestSound busy :=
  requestSound_of (r := Door.afterPowerOn) rfl rfl rfl rfl (by decide) (by decide)

theorem witness_EveryStepKeepsTheRequestsSound : RequestSound busy ∧ ∃ t, step busy = .next t :=
  ⟨requestSound_busy, busy_steps⟩

theorem allowanceSound_busy : AllowanceSound busy :=
  ⟨requestSound_busy, by decide, by decide, by decide, by decide⟩

theorem witness_EveryStepKeepsTheAllowance : AllowanceSound busy ∧ ∃ t, step busy = .next t :=
  ⟨allowanceSound_busy, busy_steps⟩

theorem bookSound_busy : BookSound busy := fun h => by cases h

theorem zeroSpeedSound_busy : ZeroSpeedSound busy := by
  refine ⟨requestSound_busy, bookSound_busy, fun d => ?_⟩
  cases d <;> exact ⟨by simp [busy, State.door, State.reset, PerDoorway.const, PerDoorway.get,
    Door.afterPowerOn], fun h => by cases h⟩

theorem witness_NoGrantableHeadIsLeftWaiting :
    Decided busy ∧ (∃ t, step busy = .next t) ∧ busy.arbiter.pair = none :=
  ⟨⟨allowanceSound_busy, zeroSpeedSound_busy, rfl⟩, busy_steps, rfl⟩

theorem supplySound_dark : SupplySound dark :=
  ⟨fun d => by cases d <;> decide, fun _ => ⟨rfl, rfl, rfl, rfl, rfl, fun d => by cases d <;> decide⟩⟩

theorem witness_EveryStepKeepsALostSupplyDark : SupplySound dark ∧ ∃ t, step dark = .next t :=
  ⟨supplySound_dark, dark_steps⟩

theorem bookSound_rolling : BookSound rolling := fun _ => ⟨rfl, fun i => by cases i <;> rfl⟩

theorem witness_EveryStepKeepsReleasesWithinZeroSpeed :
    BookSound rolling ∧ rolling.zeroSpeed = false ∧ ∃ t, step rolling = .next t :=
  ⟨bookSound_rolling, rfl, rolling_steps⟩

theorem zeroSpeedSound_rolling : ZeroSpeedSound rolling := by
  refine ⟨requestSound_of (r := Door.afterPowerOn) rfl rfl rfl rfl (by decide) (by decide),
    bookSound_rolling, fun d => ?_⟩
  cases d <;> exact ⟨by simp [rolling, busy, State.door, State.reset, PerDoorway.const, PerDoorway.get,
    Door.afterPowerOn], fun _ => ⟨rfl, by decide, by simp [rolling, busy, State.door, State.reset,
    PerDoorway.const, PerDoorway.get, Door.afterPowerOn]⟩⟩

theorem witness_NoDoorwayOpensWithoutZeroSpeed :
    ZeroSpeedSound rolling ∧ rolling.zeroSpeed = false ∧ ∃ t, step rolling = .next t :=
  ⟨zeroSpeedSound_rolling, rfl, rolling_steps⟩

theorem linkSound_busy : LinkSound busy :=
  ⟨by decide, fun _ d => by cases d <;> rfl, fun d => by cases d <;> decide, by decide, by decide,
    by decide, by decide, by decide⟩

theorem contextSound_busy : ContextSound busy := fun q => by cases q <;> rfl

theorem witness_EveryStepKeepsTheLinkSound :
    LinkSound busy ∧ ContextSound busy ∧ ∃ t, step busy = .next t :=
  ⟨linkSound_busy, contextSound_busy, busy_steps⟩

/-- R140: COLLECTING short of the last byte, and one byte past what the command takes. -/
theorem witness_EveryStepKeepsTheLinkSound_contexts :
    Context.fits .platform (.collecting .armTriggers [7]) = true ∧
      Context.fits .platform (.collecting .armTriggers [7, 7]) = false ∧
      Context.fits .platform (.collecting .restart []) = false := by decide

/-- R112, R165: the latch that closes the last doorway of a side is reported in both sets and triggered on an
armed link. -/
theorem witness_EveryStepKeepsTheProofsSound_rises :
    let s : State :=
      { withD1 (moving .locking .toClose 3) with
        pending := [.lockSwitchChange .D1 true]
        sides := State.reset.sides.set .A { State.reset.sides.a with proof := false, output := false }
        link := { State.reset.link with lock := .locked, armedProven := true } }
    ContextSound s ∧ s.pending.head? = some (.lockSwitchChange .D1 true) ∧
      ∃ t, step s = .next t ∧ (t.side .A).proof = true ∧ t.ports.car.attention.sideProof.get .A = true ∧
        (⟨.sideProven, .A⟩ : Trigger) ∈ t.link.triggers :=
  ⟨fun q => by cases q <;> rfl, rfl, _, rfl, by decide, by decide, by decide⟩

theorem witness_EveryStepKeepsTheOutputsSound : OutputSound busy ∧ ∃ t, step busy = .next t :=
  ⟨fun d => by cases d <;> decide, busy_steps⟩

theorem witness_EveryStepKeepsTheListsInSize : SizeSound busy ∧ ∃ t, step busy = .next t :=
  ⟨⟨by decide, by decide, fun d => by cases d <;> decide, fun i => by cases i <;> decide,
    fun q => by cases q <;> decide⟩, busy_steps⟩

theorem settingsSound_busy : SettingsSound busy := by
  refine ⟨?_, by unfold PairInRange; decide, ?_, rfl, rfl, fun d => ?_⟩
  · unfold SettingsInRange; decide
  · intro a h; cases h
  · have h : ProfileInRange Profile.default := by unfold ProfileInRange; decide +kernel
    cases d <;> exact ⟨h, by decide +kernel⟩

theorem witness_EveryStepKeepsTheSettingsInRange : SettingsSound busy ∧ ∃ t, step busy = .next t :=
  ⟨settingsSound_busy, busy_steps⟩

theorem witness_AnAssertedOutputMeansALatchedSide :
    ProofSound busy ∧ LockSound busy ∧ (busy.side .A).verdict ≠ .running ∧
      (busy.side .A).output = true :=
  ⟨fun i => by cases i <;> decide, fun d => by cases d <;> decide, by decide, by decide⟩

theorem witness_TheCrcIsThePolynomialRemainder :
    (linked .locked).link.lock = .locked ∧ crc ([0x50] ++ 1 :: []) = crc ([0x50] ++ 1 :: []) := ⟨rfl, rfl⟩

/-- One pair at the edge of each clause: 7 apart, 8 above, 8 below. -/
theorem witness_LearningComesToRestWithinSevenNewtons :
    learned 80 87 = 80 ∧ learned 87 80 = 87 ∧ learned 80 88 = 81 ∧ learned 88 80 = 87 := by decide

theorem witness_StampsWrapAndCompareModulo65536 : 1 ≤ 1 ∧ 1 ≤ 32767 ∧ 32767 ≤ 32767 := by decide

/-- The clause on a spoiled stop bit, at the least byte other than 0 and at another. -/
theorem witness_ACharacterIsReadBackAsItWasSent :
    (1 : Byte) ≠ 0 ∧ (0xA5 : Byte) ≠ 0 ∧
      receptions ((characterBits false 1).take 10 ++ [false] ++ List.replicate 0 false ++ [true]) =
        [.damaged] ∧
      receptions ((characterBits false 0xA5).take 10 ++ [false] ++ List.replicate 2 false ++ [true]) =
        [.damaged] := by decide

theorem witness_ASavedCopyLoadsBackWhole : SettingsSound busy := settingsSound_busy

theorem witness_RestartKeepsWhatThePartHasLearned :
    busy.powered = true ∧ busy.zeroSpeed = true := by decide

theorem witness_ASaveCompletesOrIsCutOff :
    busy.powered = true ∧ busy.store.busySince = none ∧
      (ran (.saveSettings .service) busy).store.busySince = some 0 ∧
      ({ busy with time := 1, store := { busy.store with busySince := some 0 } } : State).store.busySince ≠
        some 1 := by decide +kernel

/-- The part in stand-down. -/
def asleep : State := { busy with standDown := true, link := { busy.link with lock := .quiescent } }

theorem witness_StandDownAndWake :
    asleep.powered = true ∧ asleep.standDown = true ∧ asleep.link.lock = .quiescent ∧
      (asleep.door .D1).state = .locked ∧ (asleep.door .D1).inputs.lockLocked = true ∧
      (asleep.door .D1).inputs.handleOperated = false ∧
      (asleep.door .D1).inputs.isolationOperated = false ∧
      Instr.linkCommand (.presence .service) = some (.service, .presence, []) ∧
      (ran (.unknownCommand .car 0x1F) asleep).lastStart = .wake := by decide +kernel

/-- R167: in stand-down the last byte of a frame on the platform link wakes nothing. -/
theorem witness_StandDownAndWake_collecting :
    let s := setContext .platform (.collecting .armTriggers [7]) asleep
    ContextSound s ∧ s.standDown = true ∧ s.link.lock = .quiescent ∧
      (ran (.strayParameterByte .platform 9) s).standDown = true ∧
      (ran (.strayParameterByte .platform 9) s).ports.platform.lastRefused = some 0x51 :=
  ⟨fun q => by cases q <;> rfl, by decide +kernel⟩

/-- R123, R175: a latched car with an empty car set stands down, a running test ends, and a link in LOCKED
loses its records. -/
theorem witness_StandDownAndWake_taken :
    let awake : State :=
      { linked .locked with
        ports := { State.reset.ports with car := { State.reset.ports.car with attention := .empty } } }
    let testing := awake.modSide .A fun r => { r with verdict := .running, priorVerdict := some .fail }
    RequestSound awake ∧ (ran (.standDown .car) awake).standDown = true ∧
      (ran (.standDown .car) awake).link.lock = .quiescent ∧
      ((ran (.standDown .car) testing).side .A).verdict = .fail :=
  ⟨requestSound_of (r := Door.afterPowerOn) rfl rfl rfl rfl (by decide) (by decide), by decide +kernel⟩

/-- R173: a power-on without zero speed that finds D1 with its leaf open. -/
theorem witness_PowerOnStartsThePartFromItsInputs_closing :
    let x : DoorInputs := { DoorInputs.quiet with sensorCount := 2400, lockLocked := false }
    let levels : InputLevels :=
      { InputLevels.quiet with zeroSpeed := false, doors := InputLevels.quiet.doors.set .D1 x }
    (ran (.powerOn levels) State.reset).doors.d1.state = .closing ∧
      (ran (.powerOn levels) State.reset).doors.d1.carKind = .zeroSpeedClose := by decide +kernel

theorem witness_ALostSupplyStopsEverything :
    busy.powered = true ∧ busy.arbiter.supply = .healthy ∧
      [DoorState.unlocking, .opening, .closing, .reopening].map (fun st =>
        (withD1 (moving st .toOpen 300)).doors.d1.state) = [.unlocking, .opening, .closing, .reopening] := by
  decide

theorem witness_ARestoredSupplyPostsEveryMotion :
    dark.powered = true ∧ dark.arbiter.supply = .lost ∧ AllowanceSound dark ∧ SupplySound dark ∧
      dark.arbiter.pair = none ∧ ∀ d : Doorway, (dark.door d).pendingMotion = none :=
  ⟨rfl, rfl, ⟨requestSound_of (r := Door.afterPowerOn) rfl rfl rfl rfl (by decide) (by decide),
    by decide, by decide, by decide, by decide⟩, supplySound_dark, rfl, fun d => by cases d <;> rfl⟩

/-- D1 at rest with an UNPOSTED motion while the supply is lost. -/
def unposted (zero : Bool) (lock : LockState) (kind : Motion) (cls : GrantClass) (target : Option Nat) :
    State :=
  { withD1 fun r => { opened r with
      p := 300, openShort := true
      pendingMotion := some { kind := kind, cls := cls, stand := .unposted, target := target }
      platform := { r.platform with hold := true, holdSince := some 0 }, closeTime := some 0 }
    with arbiter := dark.arbiter, zeroSpeed := zero, link := (linked lock).link }

theorem allowanceSound_unposted (zero : Bool) (lock : LockState) (kind : Motion) (cls : GrantClass)
    (target : Option Nat) :
    AllowanceSound (unposted zero lock kind cls target) ∧ SupplySound (unposted zero lock kind cls target) := by
  refine ⟨⟨requestSound_of (r := (unposted zero lock kind cls target).doors.d1) rfl rfl rfl rfl ?_ ?_,
    rfl, rfl, by change 0 ≤ 200; decide, by change 0 ≤ 200 - 50; decide⟩, fun d hc => ?_, fun _ =>
    ⟨rfl, rfl, rfl, rfl, rfl, fun d => ?_⟩⟩
  · intro h; change false = true at h; cases h
  · intro _; exact ⟨rfl, rfl⟩
  · cases d <;> (change false = true at hc; cases hc)
  · cases d <;> refine ⟨rfl, rfl, rfl, rfl, ?_, ?_⟩ <;> (intro h; cases h)

/-- Every form of a motion that stands UNPOSTED at the restore: posted; cleared and withheld without zero
speed; deferred under an effective hold, and posted with the hold overridden where HoldLimit has passed. -/
theorem witness_ARestoredSupplyPostsEveryMotion_forms :
    (ran .supplyRestore (unposted true .unlocked .toOpen .ordinary none)).doors.d1.state = .opening ∧
      (ran .supplyRestore (unposted false .unlocked .toOpen .ordinary none)).doors.d1.pendingMotion = none ∧
      ((ran .supplyRestore (unposted false .unlocked .reopen .urgent (some 500))).doors.d1.pendingMotion.map
        fun m => m.stand) = some .withheld ∧
      ((ran .supplyRestore (unposted true .locked .toClose .ordinary none)).doors.d1.pendingMotion.map
        fun m => m.stand) = some .deferred ∧
      (ran .supplyRestore { unposted true .locked .toClose .ordinary none with
        time := 8000 }).doors.d1.platform.overridden = true ∧
      (unposted true .locked .toClose .ordinary none).settings.holdLimit = 8000 := by decide +kernel

theorem witness_TheLossOfZeroSpeedSendsEveryDoorwayHome :
    busy.powered = true ∧ busy.zeroSpeed = true ∧ ZeroSpeedSound busy :=
  ⟨rfl, rfl, zeroSpeedSound_busy⟩

/-- A doorway OPEN whose CLOSE waits in a queue: the form that a decision may grant before its turn. -/
theorem witness_TheLossOfZeroSpeedSendsEveryDoorwayHome_waiting :
    let s := withD1 fun r => { opened r with
      pendingMotion := some { kind := .toClose, cls := .ordinary, stand := .queued, target := none } }
    closeWaits (s.door .D1) = true ∧ closeWaits (busy.door .D1) = false ∧
      closeWaits ((withD1 opened).door .D1) = false := by decide

/-- A reversal withheld without zero speed and with the supply lost. -/
def withheld : State :=
  { withD1 fun r => { r with
      state := .stopped, p := 100
      pendingMotion := some { kind := .reopen, cls := .urgent, stand := .withheld, target := some 350 } }
    with zeroSpeed := false, arbiter := dark.arbiter }

theorem witness_TheReturnOfZeroSpeedPostsEveryWithheldReversal :
    withheld.powered = true ∧ withheld.zeroSpeed = false ∧ RequestSound withheld ∧
      withheld.arbiter.supply = .lost ∧
      ((withheld.door .D1).pendingMotion.map fun m => m.stand) = some .withheld ∧
      (withheld.door .D1).holdDriven = false ∧
      RequestSound { withheld with arbiter := State.reset.arbiter } ∧
      ({ withheld with arbiter := State.reset.arbiter } : State).arbiter.supply = .healthy :=
  ⟨rfl, rfl, requestSound_of (r := withheld.doors.d1) rfl rfl rfl rfl (by decide) (by decide), rfl, rfl,
    rfl, requestSound_of (r := withheld.doors.d1) rfl rfl rfl rfl (by decide) (by decide), rfl⟩

/-- R88, R82: a hold that becomes effective stops a closing at Pz and not below it, overrides with HoldLimit
passed, and defers a CLOSE that waits; a hold-driven reversal that stands at its target comes to OPEN. -/
theorem witness_TheReturnOfZeroSpeedPostsEveryWithheldReversal_holds :
    let away := fun (f : Door → Door) (time : Time) =>
      { withD1 fun r => { f r with platform := { r.platform with hold := true }, closeTime := some 0 } with
        zeroSpeed := false, time := time, link := (linked .locked).link }
    let back := fun (f : Door → Door) (time : Time) => (ran .zeroSpeedRegain (away f time)).doors.d1
    let waits : State :=
      { away (fun r => { opened r with
          pendingMotion := some { kind := .toClose, cls := .ordinary, stand := .queued, target := none } }) 0
        with arbiter :=
          { State.reset.arbiter with
            ordinary :=
              [{ door := .D1, motion := .toClose, cls := .ordinary, amount := 160, posted := 0,
                 lateDeadline := 0, lateReported := false }] } }
    RequestSound (away (moving .closing .toClose 64) 0) ∧
      (back (moving .closing .toClose 64) 0).holdDriven = true ∧
      (back (moving .closing .toClose 63) 0).state = .closing ∧
      (back (moving .closing .toClose 64) 8000).platform.overridden = true ∧
      ((ran .zeroSpeedRegain waits).doors.d1.pendingMotion.map fun m => m.stand) = some .deferred ∧
      (back (fun r => { r with
        state := .stopped, p := 720, k := 4, holdDriven := true
        pendingMotion :=
          some { kind := .fullReopen, cls := .urgent, stand := .withheld, target := some 720 } }) 0).state =
        .opened :=
  ⟨requestSound_of rfl rfl rfl rfl (by decide) (by decide), by decide +kernel⟩

theorem witness_APlausibleReadingIsTakenIntoP :
    RequestSound (withD1 (moving .opening .toOpen 700)) ∧
      RequestSound (withD1 (moving .closing .toClose 10)) ∧
      RequestSound (withD1 (moving .reopening .reopen 300)) ∧
      (withD1 (moving .opening .toOpen 700)).powered = true ∧
      5720 / 8 ≤ 720 + 20 ∧ 5720 / 8 = 715 ∧ 715 ≤ 700 + 50 ∧ 700 ≤ 715 + 50 ∧
      31 / 8 = 3 ∧ 10 ≤ 31 / 8 + 50 :=
  ⟨requestSound_withD1 _ (by decide) (by decide), requestSound_withD1 _ (by decide) (by decide),
    requestSound_withD1 _ (by decide) (by decide), rfl, by decide⟩

/-- The clauses on a pressed edge that a reading uncovers, on a hold-driven reopening at its end and on a
doorway that relatches, each at the boundary. -/
theorem witness_APlausibleReadingIsTakenIntoP_boundaries :
    let closing := withD1 fun r =>
      { moving .closing .toClose 14 r with inputs := { r.inputs with edgePressed := true, lockLocked := false } }
    let reopening := withD1 fun r => { moving .reopening .fullReopen 719 r with
      holdDriven := true, attempt := some (latch 0 r .fullReopen 300 (some 720) false) }
    let resting := withD1 fun r => { opened r with p := 4, inputs := DoorInputs.quiet }
    RequestSound closing ∧ RequestSound reopening ∧ RequestSound resting ∧
      (ran (.positionReading .D1 (15 * 8)) closing).doors.d1.lastCause = some .edge ∧
      (ran (.positionReading .D1 (15 * 8 - 1)) closing).doors.d1.lastCause = none ∧
      (ran (.positionReading .D1 (720 * 8)) reopening).doors.d1.holdDriven = false ∧
      (ran (.positionReading .D1 (3 * 8)) resting).doors.d1.state = .locked ∧
      (ran (.positionReading .D1 (4 * 8)) resting).doors.d1.openShort = true :=
  ⟨requestSound_withD1 _ (by decide) (by decide), requestSound_withD1 _ (by decide) (by decide),
    requestSound_withD1 _ (by decide) (by decide), by decide +kernel⟩

/-- D1 PAUSED for its OPEN_RETRY at a position, the switch reading unlocked. -/
def retrying (p : Nat) (r : Door) : Door :=
  { opened r with state := .paused, p := p, pausePurpose := some .openRetry, pauseTimer := some 9 }

/-- R19 and R7 at the relatching of a running OPEN_RETRY pause: begun, UNPOSTED, or cleared; and of a
pending OPEN. -/
theorem witness_APlausibleReadingIsTakenIntoP_relatching :
    let latched := fun (r : Door) => { r with inputs := DoorInputs.quiet }
    let s := withD1 fun r => latched (retrying 4 r)
    let lost := { s with arbiter := { s.arbiter with supply := .lost } }
    let kept := withD1 fun r => latched { opened r with
      state := .stopped, p := 4, pendingMotion := some ⟨.toOpen, .ordinary, .unposted, none⟩ }
    let read := fun (s : State) => (ran (.positionReading .D1 (3 * 8)) s).doors.d1
    RequestSound s ∧ (read s).state = .unlocking ∧ (read s).pendingMotion = none ∧
      (read lost).pendingMotion = some ⟨.toOpen, .ordinary, .unposted, none⟩ ∧
      (read { s with zeroSpeed := false }).state = .locked ∧
      (read { s with zeroSpeed := false }).pendingMotion = none ∧
      (read kept).state = .locked ∧
      (read kept).pendingMotion = some ⟨.toOpen, .ordinary, .unposted, none⟩ :=
  ⟨requestSound_withD1 _ (by decide) (by decide), by decide +kernel⟩

theorem witness_ASampleBelowItsLimitsIsMeasured :
    (withD1 (moving .closing .toClose 300)).powered = true ∧
      ((withD1 (moving .closing .toClose 300)).door .D1).state = .closing ∧
      ((withD1 (moving .closing .toClose 300)).door .D1).attempt.isSome = true ∧
      ((withD1 (moving .closing .toClose 300)).door .D1).driveOff ≠ some 0 ∧
      ((withD1 fun r => { moving .closing .toClose 300 r with driveOff := some 0 }).door .D1).driveOff =
        some State.reset.time ∧
      forceOf 4800 800 16 = 250 := by decide

theorem witness_AnObstructionStopsRecordsAndReverses :
    let s := withD1 (moving .closing .toClose 15)
    s.powered = true ∧ RequestSound s ∧ (s.door .D1).state = .closing ∧
      (s.door .D1).inputs.edgePressed = false ∧
      ((s.door .D1).attempt.map fun a => a.edgeMute) = some 15 ∧
      due s.time ((s.door .D1).stallWatch.map fun w => w.deadline) = true ∧
      due s.time (s.door .D1).closeDeadline = true ∧ (s.door .D1).driveOff ≠ some s.time ∧
      RequestSound (withD1 (moving .locking .toClose 3)) ∧
      due 0 ((withD1 (moving .locking .toClose 3)).door .D1).lockTimer = true :=
  ⟨rfl, requestSound_withD1 _ (by decide) (by decide), rfl, rfl, rfl, by decide, by decide,
    by decide, requestSound_withD1 _ (by decide) (by decide), by decide⟩

/-- R34, R36: the sample that obstructs enters the peak and the mark of segment 13, and is the last judged
force where the reversal waits. -/
theorem witness_AnObstructionStopsRecordsAndReverses_sample :
    let s := withD1 (moving .closing .toClose 300)
    let lost := { s with arbiter := { s.arbiter with supply := .lost } }
    let x := (ran (.currentSample .D1 4816) lost).doors.d1
    x.state = .stopped ∧ x.peaks.getD 13 0 = 251 ∧ x.marks.getD 13 false = true ∧
      x.lastForce = some 251 ∧ (ran (.currentSample .D1 4816) s).doors.d1.state = .reopening ∧
      (ran (.currentSample .D1 4816) s).doors.d1.peaks.getD 13 0 = 251 := by decide +kernel

/-- R50: an opening blocked in the lock window relatches, and its OPEN is set and posted after the first
block alone. -/
theorem witness_ABlockedMotionPausesOrStaysShort_relatching :
    let s := fun (attempts : Nat) => withD1 fun r =>
      { moving .opening .toOpen 3 r with openAttempts := attempts, inputs := DoorInputs.quiet }
    RequestSound (s 0) ∧ RequestSound (s 1) ∧
      (ran (.stallWatchExpiry .D1) (s 0)).doors.d1.state = .unlocking ∧
      (ran (.stallWatchExpiry .D1) (s 1)).doors.d1.state = .locked ∧
      (ran (.stallWatchExpiry .D1) (s 1)).doors.d1.pendingMotion = none :=
  ⟨requestSound_withD1 _ (by decide) (by decide), requestSound_withD1 _ (by decide) (by decide),
    by decide +kernel⟩

theorem witness_ABlockedMotionPausesOrStaysShort :
    let s := withD1 (moving .opening .toOpen 300)
    s.powered = true ∧ RequestSound s ∧ (s.door .D1).state = .opening ∧
      due s.time ((s.door .D1).stallWatch.map fun w => w.deadline) = true ∧ 250 < forceOf 4816 800 16 ∧
      (s.door .D1).driveOff ≠ some s.time ∧
      RequestSound (withD1 (moving .reopening .reopen 300)) :=
  ⟨rfl, requestSound_withD1 _ (by decide) (by decide), rfl, by decide, by decide, by decide,
    requestSound_withD1 _ (by decide) (by decide)⟩

theorem witness_EveryWayOutOfControlMakesTheSameEntry :
    State.reset.powered = true ∧ RequestSound State.reset ∧
      (State.reset.door .D1).state = .locked ∧ (State.reset.door .D1).inputs.lockLocked = true ∧
      0 + 50 < 408 / 8 ∧ (State.reset.door .D1).rescaled = false ∧
      (State.reset.door .D1).inputs.overcurrent = false ∧
      (State.reset.door .D1).inputs.handleOperated = false ∧
      (State.reset.door .D1).inputs.isolationOperated = false :=
  ⟨rfl, requestSound_reset, by decide⟩

/-- D1 out of the part's control with an input operated. -/
def outOf (st : DoorState) (x : DoorInputs) : State := withD1 fun r => { r with state := st, inputs := x }

theorem requestSound_outOf (st : DoorState) (x : DoorInputs) : RequestSound (outOf st x) :=
  requestSound_withD1 _ (fun h => by change false = true at h; cases h)
    fun h => by change false = true at h; cases h

theorem witness_TheReturnEvaluationReadsTheInputs :
    let x := DoorInputs.quiet
    RequestSound (outOf .emergency { x with handleOperated := true }) ∧
      RequestSound (outOf .isolated { x with isolationOperated := true }) ∧
      RequestSound (outOf .fault x) ∧ (outOf .fault x).powered = true ∧ (outOf .fault x).zeroSpeed = true ∧
      ((outOf .emergency { x with handleOperated := true }).door .D1).inputs.handleOperated = true ∧
      ((outOf .isolated { x with isolationOperated := true }).door .D1).inputs.isolationOperated = true ∧
      (1#8).getLsbD (Doorway.D1.number - 1) = true ∧
      RequestSound
        { outOf .emergency { x with handleOperated := true, lockLocked := false } with
          zeroSpeed := false } ∧
      ({ outOf .emergency { x with handleOperated := true, lockLocked := false } with
          zeroSpeed := false } : State).zeroSpeed = false :=
  ⟨requestSound_outOf _ _, requestSound_outOf _ _, requestSound_outOf _ _, rfl, rfl,
    rfl, rfl, rfl, requestSound_of (r := (outOf .emergency _).doors.d1) rfl rfl rfl rfl
      (fun h => by change false = true at h; cases h) (fun h => by change false = true at h; cases h),
    rfl⟩

/-- R127: without zero speed a doorway that comes to OPEN closes at once, at all three occasions. -/
theorem witness_TheReturnEvaluationReadsTheInputs_closing :
    let x := { DoorInputs.quiet with lockLocked := false, sensorCount := 2400 }
    let away := fun (s : State) => { s with zeroSpeed := false }
    (ran (.emergencyHandleRestored .D1)
        (away (outOf .emergency { x with handleOperated := true }))).doors.d1.state = .closing ∧
      (ran (.isolationRestored .D1)
        (away (outOf .isolated { x with isolationOperated := true }))).doors.d1.carKind = .zeroSpeedClose ∧
      (ran (.restore .service [1]) (away (outOf .fault x))).doors.d1.carStamp = 1 := by decide +kernel

theorem witness_OtherInputsAreFollowedWithoutEffect :
    State.reset.powered = true ∧ (State.reset.door .D1).state ≠ .closing ∧
      (outOf .emergency DoorInputs.quiet).powered = true ∧
      ((outOf .emergency DoorInputs.quiet).door .D1).state.outOfControl = true ∧
      ((outOf .emergency DoorInputs.quiet).door .D1).inputs.isolationOperated = false ∧
      ((withD1 fun r => { r with inputs := { r.inputs with isolationOperated := true } }).door
        .D1).inputs.isolationOperated = true ∧
      ((withD1 fun r => { opened r with p := 4 }).door .D1).state = .opened ∧
      3 < ((withD1 fun r => { opened r with p := 4 }).door .D1).p := by decide

theorem witness_TheLockSwitchFreesLatchesAndTeaches :
    let unlocking := withD1 fun r => { r with state := .unlocking }
    let missed := withD1 fun r =>
      { r with state := .unlocking, unlockMissedAt := some 0, unlockFailures := 1 }
    let reopening := withD1 fun r => { moving .reopening .reopen 3 r with obstructedAt := some 0 }
    let locking := withD1 (moving .locking .toClose 3)
    let resting := withD1 fun r => { opened r with p := 3 }
    unlocking.powered = true ∧ RequestSound unlocking ∧ RequestSound locking ∧ RequestSound resting ∧
      (unlocking.door .D1).inputs.lockLocked = true ∧ (locking.door .D1).inputs.lockLocked = false ∧
      (resting.door .D1).inputs.lockLocked = false ∧ (resting.door .D1).p = 3 ∧
      ((outOf .isolated DoorInputs.quiet).door .D1).state = .isolated ∧ RequestSound missed ∧
      (missed.door .D1).unlockMissedAt = some missed.time ∧ (missed.door .D1).unlockFailures ≠ 0 ∧
      (unlocking.door .D1).unlockMissedAt ≠ some unlocking.time ∧ RequestSound reopening ∧
      (reopening.door .D1).state = .reopening ∧ (reopening.door .D1).inputs.lockLocked = false ∧
      (reopening.door .D1).p ≤ 3 ∧ (reopening.door .D1).obstructedAt = some reopening.time :=
  ⟨rfl, requestSound_withD1 _ (by decide) (by decide), requestSound_withD1 _ (by decide) (by decide),
    requestSound_withD1 _ (by decide) (by decide), rfl, rfl, rfl, rfl, rfl,
    requestSound_withD1 _ (by decide) (by decide), rfl, by decide, by decide,
    requestSound_withD1 _ (by decide) (by decide), by decide⟩

/-- R19: the lock switch relatches a doorway in its OPEN_RETRY pause, and its OPEN begins. -/
theorem witness_TheLockSwitchFreesLatchesAndTeaches_relatching :
    let s := withD1 (retrying 3)
    RequestSound s ∧ (s.door .D1).inputs.lockLocked = false ∧ (s.door .D1).p ≤ 3 ∧
      (ran (.lockSwitchChange .D1 true) s).doors.d1.state = .unlocking :=
  ⟨requestSound_withD1 _ (by decide) (by decide), by decide +kernel⟩

theorem witness_AnUnlockThatTimesOutIsTriedTwice :
    let s := withD1 (moving .unlocking .toOpen 0)
    s.powered = true ∧ RequestSound s ∧ (s.door .D1).state = .unlocking ∧
      due s.time (s.door .D1).unlockTimer = true ∧ (s.door .D1).unlockFailures = 0 :=
  ⟨rfl, requestSound_withD1 _ (by decide) (by decide), by decide⟩

/-- D1 in PAUSED with its pause timer reached. -/
def paused (purpose : PausePurpose) (k : Nat) : State :=
  withD1 fun r => { r with state := .paused, p := 300, k := k, pausePurpose := some purpose, pauseTimer := some 0 }

theorem witness_APauseEndsInItsRetry :
    (paused .openRetry 0).powered = true ∧ RequestSound (paused .openRetry 0) ∧
      RequestSound (paused .closeRetry 3) ∧ RequestSound (paused .closeRetry 4) ∧
      ((paused .closeRetry 3).door .D1).state = .paused ∧
      ((paused .closeRetry 3).door .D1).pendingMotion = none ∧
      due 0 ((paused .closeRetry 3).door .D1).pauseTimer = true :=
  ⟨rfl, requestSound_withD1 _ (by decide) (by decide), requestSound_withD1 _ (by decide) (by decide),
    requestSound_withD1 _ (by decide) (by decide), by decide⟩

/-- D1 OPEN with a deferred CLOSE whose hold deadline is reached, on a LOCKED link. -/
def deferred : State :=
  { withD1 fun r => { opened r with
      pendingMotion := some { kind := .toClose, cls := .ordinary, stand := .deferred, target := none }
      platform := { r.platform with hold := true, holdSince := some 0 }
      closeTime := some 0, holdDeadline := some 0 }
    with link := (linked .locked).link }

theorem requestSound_deferred : RequestSound deferred :=
  requestSound_of (r := deferred.doors.d1) rfl rfl rfl rfl (by decide) (by decide)

/-- A queued OPEN of D1 that nothing can grant, with its late deadline reached. -/
def queuedLate : State :=
  { withD1 fun r => { r with
      pendingMotion := some { kind := .toOpen, cls := .ordinary, stand := .queued, target := none } }
    with arbiter :=
      { State.reset.arbiter with
        ordinary :=
          [{ door := .D1, motion := .toOpen, cls := .ordinary, amount := 160, posted := 0,
             lateDeadline := 0, lateReported := false }] } }

theorem requestSound_queuedLate : RequestSound queuedLate := by
  refine ⟨by simp [queuedLate, State.reset], ?_, by simp [queuedLate, State.reset], by decide, fun d => ?_⟩
  · intro e he
    simp only [queuedLate, List.mem_singleton] at he
    subst he
    exact ⟨rfl, rfl⟩
  · cases d <;> decide

theorem witness_ADeferralEndsAndALateRequestIsReported :
    deferred.powered = true ∧ RequestSound deferred ∧
      ((deferred.door .D1).pendingMotion.map fun m => (m.kind, m.stand)) = some (.toClose, .deferred) ∧
      due deferred.time (deferred.door .D1).holdDeadline = true ∧ RequestSound queuedLate ∧
      ((queuedEntry queuedLate .D1).map fun e => (e.lateReported, due 0 (some e.lateDeadline))) =
        some (false, true) :=
  ⟨rfl, requestSound_deferred, rfl, by decide, requestSound_queuedLate, by decide⟩

theorem witness_SilenceClosesReleasedSides :
    let s : State := { busy with carSilence := .notSilent 0, silentDwell := some 0 }
    s.powered = true ∧ RequestSound s ∧ due s.time (silenceDeadline s.carSilence) = true ∧
      due s.time s.silentDwell = true :=
  ⟨rfl, requestSound_of (r := Door.afterPowerOn) rfl rfl rfl rfl (by decide) (by decide), by decide, by decide⟩

/-- R90: a dwell that is over closes an open doorway of a released side, with service mode off. -/
theorem witness_SilenceClosesReleasedSides_closing :
    let s : State :=
      { (withD1 opened).modSide .A (fun r => { r with release := .unscreened }) with
        silentDwell := some 0 }
    RequestSound s ∧ s.serviceMode = false ∧ due s.time s.silentDwell = true ∧
      (ran .silentDwellTimerExpiry s).doors.d1.state = .closing ∧
      (ran .silentDwellTimerExpiry { s with serviceMode := true }).doors.d1.state = .opened :=
  ⟨requestSound_of rfl rfl rfl rfl (by decide) (by decide), by decide⟩

/-- Side A with another loop watch. -/
def watching (w : LoopWatch) (output : Bool) : State :=
  State.reset.modSide .A fun r => { r with watch := w, output := output, proof := output }

theorem witness_TheLoopMonitorReportsADisagreementOnce :
    (watching (.openWatch 0) true).powered = true ∧
      due 0 (openWatchDeadline ((watching (.openWatch 0) true).side .A).watch) = true ∧
      due 0 (stuckWatchDeadline ((watching (.stuckWatch 0) false).side .A).watch) = true ∧
      ((watching (.stuckWatch 0) false).side .A).output = false := by decide

theorem witness_TheLoopTestDrivesItsPattern :
    let s := ran (.loopTest .car [0]) State.reset
    let t : State := { s with time := 20 }
    s.powered = true ∧ Port.car ≠ .platform ∧ (t.side .A).verdict = .running ∧
      due t.time (t.side .A).stepDeadline = true ∧ (t.side .A).step ≤ 15 ∧
      ((t.modSide .A fun r => { r with step := 15 }).side .A).step = 15 := by decide

theorem requestSound_linked (l : LockState) : RequestSound (linked l) :=
  requestSound_of (r := Door.afterPowerOn) rfl rfl rfl rfl (by decide) (by decide)

theorem witness_TheLinkLeavesLockedWithItsRecords :
    (linked .locked).powered = true ∧ RequestSound (linked .locked) ∧ RequestSound (linked .acquiring) ∧
      RequestSound deferred ∧ (linked .locked).link.lock = .locked ∧ due 0 (linked .locked).link.deadline = true ∧ (linked .acquiring).link.lock = .acquiring ∧
      due 0 (linked .acquiring).link.deadline = true ∧ deferred.link.lock = .locked ∧
      ((deferred.door .D1).pendingMotion.map fun m => (m.kind, m.stand)) = some (.toClose, .deferred) ∧
      (ran .goodFrameDeadlineExpiry deferred).doors.d1.state = .closing ∧
      (ran .goodFrameDeadlineExpiry
          { deferred with arbiter := dark.arbiter }).doors.d1.pendingMotion.map (fun m => m.stand) =
        some .unposted :=
  ⟨rfl, requestSound_linked _, requestSound_linked _, requestSound_deferred, by decide⟩

theorem witness_AFrameIsBelievedAfterThreeGoodOnes :
    (linked .locked).powered = true ∧ RequestSound (linked .locked) ∧
      (linked .locked).link.lastSequence ≠ some 7 := ⟨rfl, requestSound_linked _, by decide⟩

/-- The runs at the edge of each clause: the third good frame, the third and the fourth bad one. -/
theorem witness_AFrameIsBelievedAfterThreeGoodOnes_runs :
    let at' := fun (l : LockState) (good bad : Nat) =>
      { State.reset with link := { State.reset.link with lock := l, goodRun := good, badRun := bad } }
    let frame := fun (check : Byte) => Instr.platformStatus .platform [0, 0, 0, 0, 7, check]
    let good := crc [0x50, 0, 0, 0, 0, 7]
    (ran (frame good) (at' .acquiring 2 0)).link.lock = .locked ∧
      (ran (frame good) (at' .acquiring 1 0)).link.lock = .acquiring ∧
      (ran (frame (good ^^^ 1)) (at' .locked 3 3)).link.lock = .unlocked ∧
      (ran (frame (good ^^^ 1)) (at' .locked 3 2)).link.lock = .locked := by decide +kernel

/-- R83: a frame without the hold ends the deferral. -/
theorem witness_AFrameIsBelievedAfterThreeGoodOnes_fall :
    holdEffective deferred .D1 = true ∧
      (ran (.platformStatus .platform [0, 0, 0, 0, 7, crc [0x50, 0, 0, 0, 0, 7]]) deferred).doors.d1.state =
        .closing := by decide +kernel

/-- D1 CLOSING in the run zone at its boundary under an ORDINARY grant, on a LOCKED link. -/
def heldClosing (closeTime : Time) : State :=
  { withD1 fun r => { moving .closing .toClose 64 r with closeTime := some closeTime }
    with link := (linked .locked).link }

theorem witness_ARisingHoldDefersOrReverses :
    let s := heldClosing 0
    s.powered = true ∧ RequestSound s ∧ s.zeroSpeed = true ∧ s.link.lock = .locked ∧
      s.link.lastSequence ≠ some 7 ∧ Doorway.D1.side = (if (0 : Byte) = 0 then Side.A else Side.B) ∧
      (s.door .D1).platform.hold = false ∧ (s.door .D1).platform.overridden = false ∧
      (0xF1#8).getLsbD ((Doorway.D1.number - 1) % 4) = true ∧ (s.door .D1).profile.pz ≤ (s.door .D1).p ∧
      (s.time - 0).toNat < s.settings.holdLimit ∧
      ¬ ((heldClosing 0).time - (0 - 8000#32)).toNat < s.settings.holdLimit :=
  ⟨rfl, requestSound_of (r := (heldClosing 0).doors.d1) rfl rfl rfl rfl (by decide) (by decide), by decide⟩

/-- R79, R82: a panel state of OBSTRUCTED raises the hold with the hold mask 0, and a closing without a close
time counts from its grant, at both ends of HoldLimit. -/
theorem witness_ARisingHoldDefersOrReverses_panel :
    let s := fun (now : Time) => { heldClosing 0 with time := now }.modDoor .D1 fun r =>
      { r with closeTime := none }
    let held := fun (now : Time) =>
      (ran (.platformStatus .platform [0, 0, 3, 0, 7, crc [0x50, 0, 0, 3, 0, 7]]) (s now)).doors.d1
    (0 : Byte).getLsbD ((Doorway.D1.number - 1) % 4) = false ∧
      ((3 : Byte).toNat / 4 ^ ((Doorway.D1.number - 1) % 4)) % 4 = 3 ∧
      (held 7999).platform.hold = true ∧ (held 7999).holdDriven = true ∧
      (held 8000).holdDriven = false ∧ (held 8000).platform.overridden = true ∧
      (held 8000).state = .closing := by decide +kernel

theorem witness_TheReceiveContextFollowsTheBytes :
    State.reset.powered = true ∧ Instr.linkCommand (.carOpen .service [1]) = some (.service, .carOpen, [1]) ∧
      Command.allowedOn .carOpen .service = false ∧ commandOf 0x1F = none := by decide

/-- R140: the last byte of a READ HISTORY hands the read to its block. -/
theorem witness_TheReceiveContextFollowsTheBytes_completes :
    Instr.linkCommand (.readHistory .car [1]) = some (.car, .readHistory, [] ++ [1]) ∧
      Instr.linkCommand (.readHistory .car []) = some (.car, .readHistory, []) ∧
      Command.readHistory.paramCount = 1 ∧
      (ran (.strayParameterByte .car 1) (ran (.readHistory .car []) State.reset)).ports.car.responses =
        [⟨0x23, [1, 0, 0]⟩] := by decide +kernel

/-- R143, R145: a field is applied at its second byte and stands when the command is cut short. -/
theorem witness_TheReceiveContextFollowsTheBytes_settings :
    let s := ran (.setAllowance .car [1]) State.reset
    let t := ran (.lineBreak .car) (ran (.strayParameterByte .car 0x58) s)
    s.settings.allowance = State.reset.settings.allowance ∧ t.settings.allowance = 344 ∧
      t.settings.reserve = State.reset.settings.reserve ∧ t.ports.car.counts.truncated = 1 := by
  decide +kernel

theorem witness_ASideIsReleasedAtZeroSpeed : State.reset.powered = true ∧ State.reset.zeroSpeed = true ∧
    rolling.powered = true ∧ rolling.zeroSpeed = false := by decide

theorem witness_AWithdrawalTakesTheReleaseAway : State.reset.powered = true ∧ rolling.powered = true := by
  decide

/-- Side A released, D1 LOCKED. -/
def released : State := State.reset.modSide .A fun r => { r with release := .unscreened }

theorem witness_AnOpenPassesItsGatesOrIsRefused :
    released.powered = true ∧ RequestSound released ∧ SettingsSound released ∧
      withinReach released 1 .D1 = true ∧
      refusingGate released .D1 = none ∧ refusingGate State.reset .D1 = some .release ∧
      released.serviceMode = false ∧
      (ran (.localOpen .service [0]) released).ports.service.lastRefused = some 0x31 :=
  ⟨rfl, requestSound_of (r := Door.afterPowerOn) rfl rfl rfl rfl (by decide) (by decide),
    settingsSound_busy, by decide⟩

theorem witness_ACloseIsRecordedAndActs :
    (withD1 opened).powered = true ∧ RequestSound (withD1 opened) ∧
      withinReach (withD1 opened) 1 .D1 = true ∧ ((withD1 opened).door .D1).state = .opened ∧
      ((withD1 opened).door .D1).pendingMotion = none ∧ RequestSound deferred ∧
      RequestSound (paused .closeRetry 1) ∧
      (ran (.carClose .car [1]) (paused .closeRetry 1)).doors.d1.pauseTimer = some 0 ∧
      (ran (.localClose .service [0]) (withD1 opened)).ports.service.lastRefused = some 0x32 :=
  ⟨rfl, requestSound_withD1 _ (by decide) (by decide), by decide, rfl, rfl, requestSound_deferred,
    requestSound_withD1 _ (by decide) (by decide), by decide, by decide⟩

theorem witness_ServiceModeEndsWithAnEvaluation :
    let s : State := { released with serviceMode := true }
    s.powered = true ∧ RequestSound s ∧ SettingsSound s ∧ s.serviceMode = true ∧ s.zeroSpeed = true ∧
      s.arbiter.supply = .healthy :=
  ⟨rfl, requestSound_of (r := Door.afterPowerOn) rfl rfl rfl rfl (by decide) (by decide),
    settingsSound_busy, by decide⟩

/-- R78, R25: a newer CLOSE acts on an open doorway at the end of service mode. -/
theorem witness_ServiceModeEndsWithAnEvaluation_acting :
    let s := { withD1 (fun r => { opened r with carKind := .closeDemand, carStamp := 1 }) with
      serviceMode := true }
    RequestSound s ∧ (ran (.serviceMode .service [0]) s).doors.d1.state = .closing :=
  ⟨requestSound_of rfl rfl rfl rfl (by decide) (by decide), by decide⟩

theorem witness_AReadOfTheCarIsAnsweredWhole :
    State.reset.powered = true ∧ Port.car ≠ .platform ∧
      ((State.reset.modPort .car fun r => { r with responses := [⟨0x20, []⟩, ⟨0x21, []⟩] }).port
        .car).responses.length = 2 ∧ (State.reset.port .car).responses.length = 0 := by decide

theorem witness_AReadOfADoorwayIsAnsweredInItsLayout :
    State.reset.powered = true ∧ Port.service ≠ .platform := by decide

/-- From no byte to all 51; the mask and one byte of Lstroke apply nothing, the second byte does (R145). -/
theorem witness_AProfileWriteLeavesEveryFieldInItsRange :
    State.reset.powered = true ∧ (List.replicate 51 (0xFF : Byte)).length ≤ 51 ∧
      ([] : List Byte).length ≤ 51 ∧
      (ran (.writeProfile .service [1, 1]) State.reset).doors.d1.profile = Profile.default ∧
      (ran (.writeProfile .service [1, 1, 0x91]) State.reset).doors.d1.profile.lstroke = 401 := by
  decide +kernel

theorem witness_TheAllowanceIsWrittenAsAPair :
    State.reset.powered = true ∧ Port.car ≠ .platform ∧ (List.replicate 18 (0 : Byte)).length ≤ 18 ∧
      ([] : List Byte).length ≤ 18 := by decide

theorem witness_TheCursorTheTableAndTheHistoriesAreWritten : State.reset.powered = true := rfl

end Sys2Proof.Tests
end

section
/-! The sizes of the lists and counts (R51, R94, R115, R139, R149, R155): what each record owes to
`SizeSound`, and that every operation of the part keeps it. An operation `op` has the lemma
`SizeSound.op`, so a proof lists the operations of a meaning in the order in which they act. -/

namespace Sys2Proof.Machine

open Sys2Proof

/-! ### The records -/

/-- R51: the part of `SizeSound` that a doorway answers for. -/
def Door.Sized (r : Door) : Prop := r.history.length ≤ 8 ∧ r.overflow ≤ 255

/-- R115: the part of `SizeSound` that a side answers for. -/
def SideRecord.Sized (r : SideRecord) : Prop := r.monitorEvents ≤ 255

/-- R155: the command-status counts within their limit. -/
def StatusCounts.Sized (c : StatusCounts) : Prop :=
  c.refused ≤ 255 ∧ c.truncated ≤ 255 ∧ c.clamped ≤ 255 ∧ c.unknown ≤ 255 ∧ c.stray ≤ 255 ∧
    c.void ≤ 255

/-- R149, R155: the part of `SizeSound` that a port answers for. -/
def LinkPort.Sized (r : LinkPort) : Prop := r.responses.length ≤ 2 ∧ r.counts.Sized

/-- R94: the part of `SizeSound` that the arbiter answers for. -/
def Arbiter.Sized (a : Arbiter) : Prop := ∀ c, (a.queue c).length ≤ 6

theorem sizeSound_iff {s : State} :
    SizeSound s ↔ s.arbiter.Sized ∧ (∀ d, (s.door d).Sized) ∧ (∀ i, (s.side i).Sized) ∧
      ∀ q, (s.port q).Sized := by
  have hqueues : s.arbiter.Sized ↔
      s.arbiter.urgent.length ≤ 6 ∧ s.arbiter.ordinary.length ≤ 6 :=
    ⟨fun h => ⟨h .urgent, h .ordinary⟩, fun ⟨hu, ho⟩ c => by
      cases c
      · exact hu
      · exact ho⟩
  rw [hqueues, and_assoc]
  exact Iff.rfl

/-- An operation that keeps the lists and counts in size. -/
def KeepsSize (f : State → State) : Prop := ∀ ⦃s⦄, SizeSound s → SizeSound (f s)

theorem keepsSize_id : KeepsSize id := fun _ h => h

theorem ite_sizeSound {c : Prop} [Decidable c] {s t : State} (hs : SizeSound s) (ht : SizeSound t) :
    SizeSound (if c then s else t) := by
  split
  · exact hs
  · exact ht

/-! ### Updates

An update that leaves the sized fields of a record alone takes `id` for its hypothesis. -/

section Updates

variable {s : State} (h : SizeSound s)
include h

protected theorem SizeSound.modDoor {d : Doorway} {f : Door → Door}
    (hf : (s.door d).Sized → (f (s.door d)).Sized) :
    SizeSound (s.modDoor d f) := by
  obtain ⟨ha, hd, hi, hq⟩ := sizeSound_iff.1 h
  refine sizeSound_iff.2 ⟨ha, fun e => ?_, hi, hq⟩
  by_cases he : e = d
  · subst he; rw [State.door_modDoor_same]; exact hf (hd e)
  · rw [State.door_modDoor_other _ _ he]; exact hd e

protected theorem SizeSound.modSide {i : Side} {f : SideRecord → SideRecord}
    (hf : (s.side i).Sized → (f (s.side i)).Sized) :
    SizeSound (s.modSide i f) := by
  obtain ⟨ha, hd, hi, hq⟩ := sizeSound_iff.1 h
  refine sizeSound_iff.2 ⟨ha, hd, fun j => ?_, hq⟩
  by_cases hj : j = i
  · subst hj; rw [State.side_modSide_same]; exact hf (hi j)
  · rw [State.side_modSide_other _ _ hj]; exact hi j

protected theorem SizeSound.modPort {q : Port} {f : LinkPort → LinkPort}
    (hf : (s.port q).Sized → (f (s.port q)).Sized) :
    SizeSound (s.modPort q f) := by
  obtain ⟨ha, hd, hi, hq⟩ := sizeSound_iff.1 h
  refine sizeSound_iff.2 ⟨ha, hd, hi, fun p => ?_⟩
  by_cases hp : p = q
  · subst hp; rw [State.port_modPort_same]; exact hf (hq p)
  · rw [State.port_modPort_other _ _ hp]; exact hq p

protected theorem SizeSound.modArbiter {f : Arbiter → Arbiter}
    (hf : s.arbiter.Sized → (f s.arbiter).Sized) :
    SizeSound (s.modArbiter f) := by
  obtain ⟨ha, hd, hi, hq⟩ := sizeSound_iff.1 h
  exact sizeSound_iff.2 ⟨hf ha, hd, hi, hq⟩

protected theorem SizeSound.modLink {f : LinkMonitor → LinkMonitor} : SizeSound (s.modLink f) := h

protected theorem SizeSound.forDoors {ds : List Doorway} {f : Doorway → State → State}
    (hf : ∀ d, KeepsSize (f d)) : SizeSound (forDoors ds f s) :=
  forDoors_induct ds (fun d _ hs => hf d hs) h

/-! ### Attention and counts -/

protected theorem SizeSound.raiseOn {q : Port} {f : AttentionSet → AttentionSet} :
    SizeSound (raiseOn q f s) := by
  cases q
  · exact h.modPort id
  · exact h
  · exact h.modPort id

protected theorem SizeSound.raiseBoth {f : AttentionSet → AttentionSet} :
    SizeSound (raiseBoth f s) := h.raiseOn.raiseOn

omit h in
theorem bump_le (n : Nat) : bump n ≤ 255 := Nat.min_le_left _ _

protected theorem SizeSound.countOn {q : Port} {f : StatusCounts → StatusCounts}
    (hf : ∀ c, c.Sized → (f c).Sized) : SizeSound (countOn q f s) :=
  SizeSound.raiseOn <| h.modPort fun ⟨hresponses, hcounts⟩ => ⟨hresponses, hf _ hcounts⟩

protected theorem SizeSound.countRefused {q : Port} {code : Byte} :
    SizeSound (countRefused q code s) :=
  (h.modPort id).countOn fun _ ⟨_, hrest⟩ => ⟨bump_le _, hrest⟩

protected theorem SizeSound.countTruncated {q : Port} : SizeSound (countTruncated q s) :=
  h.countOn fun _ ⟨hr, _, hrest⟩ => ⟨hr, bump_le _, hrest⟩

protected theorem SizeSound.countClamped {q : Port} : SizeSound (countClamped q s) :=
  h.countOn fun _ ⟨hr, ht, _, hrest⟩ => ⟨hr, ht, bump_le _, hrest⟩

protected theorem SizeSound.countUnknown {q : Port} : SizeSound (countUnknown q s) :=
  h.countOn fun _ ⟨hr, ht, hc, _, hrest⟩ => ⟨hr, ht, hc, bump_le _, hrest⟩

protected theorem SizeSound.countStray {q : Port} : SizeSound (countStray q s) :=
  h.countOn fun _ ⟨hr, ht, hc, hu, _, hv⟩ => ⟨hr, ht, hc, hu, bump_le _, hv⟩

protected theorem SizeSound.countVoid : SizeSound (countVoid s) :=
  h.countOn fun _ ⟨hr, ht, hc, hu, hs, _⟩ => ⟨hr, ht, hc, hu, hs, bump_le _⟩

omit h in
/-- R144: where counting a clamp keeps `P`, and each use of a value leads from `P` to `Q`, so does the
clamped use. -/
theorem withClamp_induct {P Q : State → Prop} {q : Port} {lo hi v : Nat} {f : Nat → State → State}
    (hs : P s) (hclamp : P s → P (countClamped q s)) (hf : ∀ v s, P s → Q (f v s)) :
    Q (withClamp q lo hi v f s) := by
  unfold withClamp
  split
  · exact hf _ _ hs
  · exact hf _ _ (hclamp hs)

protected theorem SizeSound.withClamp {q : Port} {lo hi v : Nat} {f : Nat → State → State}
    (hf : ∀ v, KeepsSize (f v)) : SizeSound (withClamp q lo hi v f s) :=
  withClamp_induct h (fun h => h.countClamped) fun v _ hs => hf v hs

/-! ### The proof and loop block -/

protected theorem SizeSound.queueTrigger {kind : TriggerKind} {i : Side} :
    SizeSound (queueTrigger kind i s) := ite_sizeSound h.modLink h

protected theorem SizeSound.examineSide {i : Side} : SizeSound (examineSide i s) :=
  ite_sizeSound h (h.modSide id)

protected theorem SizeSound.startWatch {i : Side} : SizeSound (startWatch i s) :=
  ite_sizeSound h (h.modSide id)

protected theorem SizeSound.driveOutput {i : Side} {level : Bool} :
    SizeSound (driveOutput i level s) := ite_sizeSound h (h.modSide id).examineSide

protected theorem SizeSound.recomputeProof {i : Side} : SizeSound (recomputeProof i s) :=
  ite_sizeSound h
    (ite_sizeSound (ite_sizeSound (h.modSide id) (h.modSide id).driveOutput).raiseBoth.queueTrigger
      (ite_sizeSound (h.modSide id) (h.modSide id).driveOutput).raiseBoth)

protected theorem SizeSound.endTest {i : Side} {v : Verdict} : SizeSound (endTest i v s) :=
  (h.modSide id).recomputeProof.driveOutput.raiseBoth.startWatch

protected theorem SizeSound.abortTest {i : Side} : SizeSound (abortTest i s) :=
  ite_sizeSound h.endTest h

protected theorem SizeSound.doorChanged {d : Doorway} : SizeSound (doorChanged d s) :=
  ite_sizeSound h.abortTest h.recomputeProof

protected theorem SizeSound.startTest {i : Side} : SizeSound (startTest i s) :=
  (h.modSide id).recomputeProof.modSide id

protected theorem SizeSound.testStepEnds {i : Side} : SizeSound (testStepEnds i s) :=
  ite_sizeSound ((h.modSide id).modSide id) (h.modSide id).endTest

/-- R115. -/
protected theorem SizeSound.declareLoopOpen {i : Side} : SizeSound (declareLoopOpen i s) :=
  (h.modSide fun _ => by exact bump_le _).raiseBoth

/-- R116. -/
protected theorem SizeSound.declareLoopStuck {i : Side} : SizeSound (declareLoopStuck i s) :=
  (h.modSide fun _ => by exact bump_le _).raiseBoth.recomputeProof

end Updates

end Sys2Proof.Machine
end

section
/-! The sizes under the arbiter, the sequencers and the grant decision. An operation that takes the
decision as its argument keeps the sizes when the decision does; the queues grow only where a slot
is free. -/

namespace Sys2Proof.Machine

open Sys2Proof

/-! ### The arbiter -/

theorem Arbiter.Sized.setQueue {a : Arbiter} (ha : a.Sized) {c : GrantClass} {q : List Entry}
    (hq : q.length ≤ 6) : (a.setQueue c q).Sized := by
  intro c'
  by_cases hc : c' = c
  · subst hc; rw [queue_setQueue_same]; exact hq
  · rw [queue_setQueue_other _ _ hc]; exact ha c'

theorem activatePair_queue (a : Arbiter) (c : GrantClass) :
    (activatePair a).queue c = a.queue c := by
  cases c
  · exact activatePair_urgent a
  · exact activatePair_ordinary a

theorem Arbiter.Sized.activatePair {a : Arbiter} (ha : a.Sized) : (activatePair a).Sized :=
  fun c => (activatePair_queue a c).symm ▸ ha c

/-- An arbiter whose queues are empty. -/
theorem Arbiter.sized_of_empty {a : Arbiter} (hu : a.urgent = []) (ho : a.ordinary = []) :
    a.Sized := fun c => by cases c <;> simp [Arbiter.queue, hu, ho]

section Arbiter

variable {s : State} (h : SizeSound s)
include h

protected theorem SizeSound.setStanding {d : Doorway} {w : Standing} :
    SizeSound (setStanding d w s) := h.modDoor id

/-- R94: a queue with a free slot takes one more entry. -/
protected theorem SizeSound.appendToQueue {e : Entry} (hfree : (s.arbiter.queue e.cls).length < 6) :
    SizeSound (appendToQueue e s) := by
  have happended : ∀ x : Entry, SizeSound
      (s.modArbiter fun a => a.setQueue e.cls (a.queue e.cls ++ [x])) := fun x =>
    h.modArbiter fun ha => ha.setQueue (by rw [List.length_append]; exact hfree)
  exact ite_sizeSound (happended _).setStanding.raiseBoth (happended _).setStanding

protected theorem SizeSound.placeRequest {e : Entry} : SizeSound (placeRequest e s) := by
  unfold placeRequest
  split
  case isTrue hfree => exact h.appendToQueue hfree
  case isFalse => exact SizeSound.setStanding (h.modArbiter id)

protected theorem SizeSound.fillSlot {c : GrantClass} : SizeSound (fillSlot c s) := by
  unfold fillSlot
  split
  case h_1 => exact h
  case h_2 e he =>
    have hcls : e.cls = c := by simpa using List.find?_some he
    subst hcls
    split
    case isTrue hfree => exact SizeSound.appendToQueue (h.modArbiter id) hfree
    case isFalse => exact h

protected theorem SizeSound.removeRequest {d : Doorway} {c : GrantClass} :
    SizeSound (removeRequest d c s) :=
  SizeSound.fillSlot <| h.modArbiter fun ha =>
    ha.setQueue (Nat.le_trans (List.length_filter_le _ _) (ha c))

protected theorem SizeSound.removeWaiting {d : Doorway} : SizeSound (removeWaiting d s) :=
  h.modArbiter id

/-- R98: the entry leaves the head of its queue. -/
protected theorem SizeSound.takeGrant {e : Entry} : SizeSound (takeGrant e s) := by
  refine SizeSound.fillSlot (SizeSound.modDoor (h.modArbiter fun ha => ?_) id)
  refine ha.setQueue (c := e.cls) (q := (s.arbiter.queue e.cls).tail) ?_
  rw [List.length_tail]
  exact Nat.le_trans (Nat.sub_le _ _) (ha e.cls)

/-! ### The sequencers -/

protected theorem SizeSound.takeState {d : Doorway} {st : DoorState} :
    SizeSound (takeState d st s) := by
  refine SizeSound.doorChanged ?_
  cases st
  case obstructedOpen | emergency | isolated | fault => exact SizeSound.raiseBoth (h.modDoor id)
  all_goals exact h.modDoor id

/-- R51: a history takes its record and keeps eight; the overflow count stops at its limit. -/
protected theorem SizeSound.recordObstruction {d : Doorway} {dir : Direction}
    {cause : ObstructionCause} {zone : Option Zone} {threshold limit : Option Nat} :
    SizeSound (recordObstruction d dir cause zone threshold limit s) := by
  refine SizeSound.raiseBoth (h.modDoor ?_)
  rintro ⟨-, hoverflow⟩
  refine ⟨List.length_take_le _ _, ?_⟩
  change (if _ then _ else _) ≤ 255
  split
  · exact bump_le _
  · exact hoverflow

end Arbiter

section Deciding

variable {dec : State → State} (hdec : KeepsSize dec) {s : State} (h : SizeSound s) {d : Doorway}
include hdec h

protected theorem SizeSound.releaseGrant : SizeSound (releaseGrant dec d s) := by
  unfold releaseGrant
  split
  · exact h
  · exact hdec ((h.modDoor id).modArbiter fun ha => Arbiter.Sized.activatePair ha)

protected theorem SizeSound.withdraw : SizeSound (withdraw dec d s) := by
  unfold withdraw
  split
  case h_1 => exact h
  case h_2 m _ =>
    dsimp only
    generalize m.stand = w
    cases w
    case queued => exact hdec (SizeSound.removeRequest (h.modDoor id))
    case waitListed => exact SizeSound.removeWaiting (h.modDoor id)
    all_goals exact h.modDoor id

protected theorem SizeSound.enqueuePending : SizeSound (enqueuePending dec d s) := by
  unfold enqueuePending
  split
  · exact h
  · exact hdec h.placeRequest

protected theorem SizeSound.startDeferral : SizeSound (startDeferral dec d s) :=
  ite_sizeSound ((h.modDoor id).enqueuePending hdec) (h.setStanding.modDoor id)

/-- R7, one case after the other. -/
protected theorem SizeSound.postPending : SizeSound (postPending dec d s) := by
  unfold postPending
  split
  · exact h
  · exact ite_sizeSound h.setStanding (ite_sizeSound (h.modDoor id) (ite_sizeSound h.setStanding
      (ite_sizeSound (h.startDeferral hdec) (h.enqueuePending hdec))))

protected theorem SizeSound.setPending {kind : Motion} {cls : GrantClass} {target : Option Nat} :
    SizeSound (setPending dec d kind cls target s) := by
  unfold setPending
  dsimp only
  split
  · exact (h.modDoor id).postPending hdec
  · exact ite_sizeSound h (((h.withdraw hdec).modDoor id).postPending hdec)

omit hdec in
protected theorem SizeSound.unlessLocked {f : State → State} (hf : KeepsSize f) :
    SizeSound (unlessLocked d f s) := ite_sizeSound h (hf h)

protected theorem SizeSound.relatch : SizeSound (relatch dec d s) :=
  ite_sizeSound
    (ite_sizeSound
      ((ite_sizeSound (h.modDoor id).takeState
        ((h.modDoor id).takeState.withdraw hdec)).setPending hdec)
      (ite_sizeSound (h.modDoor id).takeState ((h.modDoor id).takeState.withdraw hdec)))
    h

protected theorem SizeSound.lockMade : SizeSound (lockMade dec d s) :=
  (h.modDoor id).takeState.releaseGrant hdec

protected theorem SizeSound.openReached : SizeSound (openReached dec d s) :=
  (h.modDoor id).takeState.releaseGrant hdec

protected theorem SizeSound.reopenReached : SizeSound (reopenReached dec d s) :=
  ite_sizeSound
    (ite_sizeSound (((h.modDoor id).takeState.releaseGrant hdec).setPending hdec)
      (h.takeState.releaseGrant hdec))
    ((h.modDoor id).takeState.releaseGrant hdec)

protected theorem SizeSound.setReversal : SizeSound (setReversal dec d s) :=
  ite_sizeSound (h.setPending hdec) (h.setPending hdec)

protected theorem SizeSound.obstruct {cause : ObstructionCause} {zone : Option Zone}
    {threshold limit : Option Nat} : SizeSound (obstruct dec d cause zone threshold limit s) :=
  (((h.modDoor id).recordObstruction.takeState.releaseGrant hdec).relatch hdec).unlessLocked
    fun _ h => h.setReversal hdec

protected theorem SizeSound.enterLocking : SizeSound (enterLocking dec d s) :=
  ite_sizeSound ((h.modDoor id).takeState.lockMade hdec) (h.modDoor id).takeState

protected theorem SizeSound.beginOpening : SizeSound (beginOpening dec d s) :=
  ite_sizeSound ((h.modDoor id).openReached hdec)
    (ite_sizeSound ((h.modDoor id).modDoor id).takeState (h.modDoor id).takeState)

protected theorem SizeSound.beginClosing : SizeSound (beginClosing dec d s) :=
  ite_sizeSound ((h.modDoor id).enterLocking hdec)
    (ite_sizeSound ((h.modDoor id).takeState.obstruct hdec) (h.modDoor id).takeState)

protected theorem SizeSound.beginReopening {kind : Motion} {target : Option Nat} :
    SizeSound (beginReopening dec d kind target s) :=
  ite_sizeSound ((h.modDoor id).reopenReached hdec) (h.modDoor id).takeState

protected theorem SizeSound.beginMotion {kind : Motion} {target : Option Nat} :
    SizeSound (beginMotion dec d kind target s) := by
  cases kind
  · exact h.beginOpening hdec
  · exact h.beginClosing hdec
  · exact h.beginReopening hdec
  · exact h.beginReopening hdec

protected theorem SizeSound.grantEntry {e : Entry} : SizeSound (grantEntry dec e s) :=
  h.takeGrant.beginMotion hdec

end Deciding

theorem keepsSize_grantDecisionFuel (n : Nat) : KeepsSize (grantDecisionFuel n) := by
  induction n with
  | zero => exact fun _ h => h
  | succ n ih =>
    intro s h
    unfold grantDecisionFuel
    split
    · exact h
    · exact ih (h.grantEntry ih)

/-- R97: the grant decision keeps the sizes. -/
theorem keepsSize_grantDecision : KeepsSize grantDecision := keepsSize_grantDecisionFuel _

end Sys2Proof.Machine
end

section
/-! The sizes under the demands, the departures from the part's control, and the inputs and timers
of a doorway. -/

namespace Sys2Proof.Machine

open Sys2Proof

/-! ### Demands acting on a doorway -/

section Acting

variable {dec : State → State} (hdec : KeepsSize dec) {s : State} (h : SizeSound s) {d : Doorway}
include hdec h

protected theorem SizeSound.stopMotion : SizeSound (stopMotion dec d s) :=
  ((h.modDoor id).takeState.releaseGrant hdec).relatch hdec

/-- R24, one row after the other. -/
protected theorem SizeSound.actOpen : SizeSound (actOpen dec d s) := by
  unfold actOpen
  dsimp only
  generalize (s.door d).state = st
  cases st
  case locked => exact h.setPending hdec
  case opened =>
    exact ite_sizeSound (((h.modDoor id).modDoor id).setPending hdec)
      (ite_sizeSound ((h.modDoor id).withdraw hdec) (h.modDoor id))
  case closing | locking | reopening => exact ((h.modDoor id).stopMotion hdec).setPending hdec
  case stopped | halted | paused => exact (h.modDoor id).setPending hdec
  case obstructedOpen => exact ((h.modDoor id).takeState.withdraw hdec).relatch hdec
  all_goals exact h

protected theorem SizeSound.abandonUnlock : SizeSound (abandonUnlock dec d s) :=
  (h.modDoor id).takeState.releaseGrant hdec

/-- R25, one row after the other. -/
protected theorem SizeSound.actClose : SizeSound (actClose dec d s) := by
  refine ite_sizeSound h ?_
  generalize (s.door d).state = st
  cases st
  case locked => exact ite_sizeSound ((h.modDoor id).withdraw hdec) h
  case unlocking => exact h.abandonUnlock hdec
  case opening => exact ((h.modDoor id).stopMotion hdec).unlessLocked fun _ h => h.setPending hdec
  case opened | obstructedOpen => exact ite_sizeSound h ((h.modDoor id).setPending hdec)
  case paused => exact ite_sizeSound ((h.modDoor id).setPending hdec) h
  case stopped | halted => exact ite_sizeSound ((h.modDoor id).setPending hdec) (h.modDoor id)
  all_goals exact h

/-- R26, one row after the other. -/
protected theorem SizeSound.actZeroSpeedClose : SizeSound (actZeroSpeedClose dec d s) := by
  unfold actZeroSpeedClose
  dsimp only
  generalize (s.door d).state = st
  cases st
  case locked => exact ite_sizeSound ((h.modDoor id).withdraw hdec) h
  case unlocking => exact h.abandonUnlock hdec
  case opening => exact (h.stopMotion hdec).unlessLocked fun _ h => h.setPending hdec
  case stopped => exact h.setPending hdec
  case reopening => exact ((h.modDoor id).stopMotion hdec).unlessLocked fun _ h => h.setPending hdec
  case opened | paused | obstructedOpen | halted => exact (h.modDoor id).setPending hdec
  all_goals exact h

protected theorem SizeSound.holdStop : SizeSound (holdStop dec d s) :=
  (h.stopMotion hdec).unlessLocked fun _ h => (h.modDoor id).setPending hdec

end Acting

/-! ### The demand book -/

section Book

variable {s : State} (h : SizeSound s)
include h

protected theorem SizeSound.withDemandCounter {n : Stamp} :
    SizeSound { s with demandCounter := n } := h

protected theorem SizeSound.recordCar {d : Doorway} {kind : CarKind} :
    SizeSound (recordCar d kind s) := (h.modDoor id).withDemandCounter

protected theorem SizeSound.recordService {d : Doorway} {kind : ServiceKind} :
    SizeSound (recordService d kind s) := (h.modDoor id).withDemandCounter

protected theorem SizeSound.recordRelease {i : Side} {mode : ReleaseMode} :
    SizeSound (recordRelease i mode s) := (h.modSide id).withDemandCounter

protected theorem SizeSound.sideReleaseActs {i : Side} {mode : ReleaseMode} :
    SizeSound (sideReleaseActs i mode s) :=
  ite_sizeSound h.recordRelease.queueTrigger h.recordRelease

protected theorem SizeSound.openAt {d : Doorway} : SizeSound (openAt d s) := by
  unfold openAt
  split
  · exact h.raiseBoth
  · exact ite_sizeSound h.recordCar (h.recordCar.actOpen keepsSize_grantDecision)

protected theorem SizeSound.carOpenActs {mask : Byte} : SizeSound (carOpenActs mask s) :=
  h.forDoors fun _ _ h => h.openAt

protected theorem SizeSound.closeAt {d : Doorway} : SizeSound (closeAt d s) :=
  ite_sizeSound h.recordCar (h.recordCar.actClose keepsSize_grantDecision)

protected theorem SizeSound.carCloseActs {mask : Byte} : SizeSound (carCloseActs mask s) :=
  h.forDoors fun _ _ h => h.closeAt

protected theorem SizeSound.endDeferral {d : Doorway} : SizeSound (endDeferral d s) :=
  ite_sizeSound ((h.modDoor id).postPending keepsSize_grantDecision) h

protected theorem SizeSound.forcedCloseActsAt {d : Doorway} : SizeSound (forcedCloseActsAt d s) :=
  (ite_sizeSound (h.modDoor id).endDeferral h).actClose keepsSize_grantDecision

protected theorem SizeSound.forcedCloseAt {d : Doorway} : SizeSound (forcedCloseAt d s) :=
  ite_sizeSound h.recordCar h.recordCar.forcedCloseActsAt

protected theorem SizeSound.forcedCloseActs {mask : Byte} : SizeSound (forcedCloseActs mask s) :=
  h.forDoors fun _ _ h => h.forcedCloseAt

protected theorem SizeSound.localOpenActs {mask : Byte} : SizeSound (localOpenActs mask s) :=
  h.forDoors fun _ _ h => h.recordService.actOpen keepsSize_grantDecision

protected theorem SizeSound.localCloseActs {mask : Byte} : SizeSound (localCloseActs mask s) :=
  h.forDoors fun _ _ h => h.recordService.actClose keepsSize_grantDecision

protected theorem SizeSound.evaluateCarRecord {d : Doorway} :
    SizeSound (evaluateCarRecord d s) := by
  refine ite_sizeSound h ?_
  generalize (s.door d).carKind = kind
  cases kind
  case none => exact h
  case openDemand =>
    dsimp only
    split
    · exact h.actOpen keepsSize_grantDecision
    · exact SizeSound.modDoor h.raiseBoth id
  case closeDemand | silentClose | zeroSpeedClose => exact h.actClose keepsSize_grantDecision
  case forcedClose => exact h.forcedCloseActsAt

protected theorem SizeSound.withServiceMode {on : Bool} :
    SizeSound { s with serviceMode := on } := h

protected theorem SizeSound.endServiceMode : SizeSound (endServiceMode s) :=
  h.withServiceMode.forDoors fun _ _ h => h.evaluateCarRecord

protected theorem SizeSound.holdRises {d : Doorway} : SizeSound (holdRises d s) := by
  refine ite_sizeSound
    (ite_sizeSound (ite_sizeSound (h.holdStop keepsSize_grantDecision) (h.modDoor id)) h) ?_
  split
  case h_1 => exact h
  case h_2 m _ =>
    refine ite_sizeSound ?_ h
    generalize m.stand = w
    cases w
    case queued =>
      exact keepsSize_grantDecision (h.removeRequest.startDeferral keepsSize_grantDecision)
    case waitListed => exact h.removeWaiting.startDeferral keepsSize_grantDecision
    all_goals exact h

protected theorem SizeSound.clearPlatformRecords : SizeSound (clearPlatformRecords s) :=
  (h.forDoors fun _ _ h => h.modDoor id).forDoors fun _ _ h => h.endDeferral

protected theorem SizeSound.dropRelease {i : Side} : SizeSound (dropRelease i s) :=
  ite_sizeSound h h.recordRelease

protected theorem SizeSound.zeroSpeedCloseAt {d : Doorway} :
    SizeSound (zeroSpeedCloseAt grantDecision d s) :=
  ite_sizeSound (h.recordCar.actZeroSpeedClose keepsSize_grantDecision)
    (h.actZeroSpeedClose keepsSize_grantDecision)

protected theorem SizeSound.withZeroSpeed {level : Bool} :
    SizeSound { s with zeroSpeed := level } := h

protected theorem SizeSound.zeroSpeedLost : SizeSound (zeroSpeedLost s) :=
  (h.withZeroSpeed.abortTest.abortTest.dropRelease.dropRelease.withServiceMode.forDoors
    fun _ _ h => h.zeroSpeedCloseAt).forDoors fun _ _ h => h.modDoor id

protected theorem SizeSound.postWithheld {d : Doorway} : SizeSound (postWithheld d s) := by
  unfold postWithheld
  dsimp only
  split
  · exact h
  · exact ite_sizeSound ((h.modDoor id).postPending keepsSize_grantDecision) h

protected theorem SizeSound.zeroSpeedRegained : SizeSound (zeroSpeedRegained s) :=
  (h.withZeroSpeed.forDoors fun _ _ h => h.postWithheld).forDoors
    fun _ _ h => ite_sizeSound h.holdRises h

protected theorem SizeSound.silentCloseAt {d : Doorway} : SizeSound (silentCloseAt d s) :=
  ite_sizeSound h.recordCar (h.recordCar.actClose keepsSize_grantDecision)

protected theorem SizeSound.withSilentDwell {deadline : Option Time} :
    SizeSound { s with silentDwell := deadline } := h

protected theorem SizeSound.silentClose : SizeSound (silentClose s) :=
  h.withSilentDwell.forDoors fun _ _ h => h.silentCloseAt

/-! ### Leaving the part's control and coming back -/

protected theorem SizeSound.leaveControl {d : Doorway} {st : DoorState}
    {cause : Option FaultCause} : SizeSound (leaveControl d st cause s) :=
  ((h.modDoor id).takeState.releaseGrant keepsSize_grantDecision).withdraw keepsSize_grantDecision

protected theorem SizeSound.enterFault {d : Doorway} {cause : FaultCause} :
    SizeSound (enterFault d cause s) := h.leaveControl

protected theorem SizeSound.returnLocked {d : Doorway} : SizeSound (returnLocked d s) :=
  (h.modDoor id).takeState

protected theorem SizeSound.returnOpen {d : Doorway} : SizeSound (returnOpen d s) :=
  ite_sizeSound (h.modDoor id).takeState (h.modDoor id).takeState.zeroSpeedCloseAt

protected theorem SizeSound.evaluatesTo {d : Doorway} {st : DoorState} {cause : Option FaultCause} :
    SizeSound (evaluatesTo d st cause s) := ite_sizeSound (h.modDoor id).raiseBoth h.leaveControl

/-- R126, one step after the other. -/
protected theorem SizeSound.returnEvaluation {d : Doorway} : SizeSound (returnEvaluation d s) :=
  ite_sizeSound h.evaluatesTo (ite_sizeSound h.evaluatesTo (ite_sizeSound (h.modDoor id).evaluatesTo
    (ite_sizeSound ((h.modDoor id).modDoor id).evaluatesTo
      (ite_sizeSound ((h.modDoor id).modDoor id).returnLocked
        ((h.modDoor id).modDoor id).returnOpen))))

protected theorem SizeSound.restoreActs {mask : Byte} : SizeSound (restoreActs mask s) :=
  h.forDoors fun _ _ h => ite_sizeSound h.returnEvaluation h

/-! ### The inputs of a doorway -/

protected theorem SizeSound.blockOpening {d : Doorway} {cause : ObstructionCause}
    {zone : Option Zone} {limit : Option Nat} : SizeSound (blockOpening d cause zone limit s) :=
  ((ite_sizeSound ((h.modDoor id).recordObstruction.modDoor id).takeState
    (h.modDoor id).recordObstruction.takeState).releaseGrant keepsSize_grantDecision).relatch
      keepsSize_grantDecision

protected theorem SizeSound.blockReopening {d : Doorway} {cause : ObstructionCause}
    {zone : Option Zone} {limit : Option Nat} : SizeSound (blockReopening d cause zone limit s) :=
  ((h.recordObstruction.modDoor id).takeState.releaseGrant keepsSize_grantDecision).relatch
    keepsSize_grantDecision

protected theorem SizeSound.afterReading {before : Door} {d : Doorway} :
    SizeSound (afterReading before d s) := by
  unfold afterReading
  dsimp only
  generalize (s.door d).state = st
  cases st
  case opening => exact ite_sizeSound (h.openReached keepsSize_grantDecision) (h.modDoor id)
  case closing =>
    exact ite_sizeSound (h.enterLocking keepsSize_grantDecision)
      (ite_sizeSound (h.obstruct keepsSize_grantDecision) h)
  case reopening => exact ite_sizeSound (h.reopenReached keepsSize_grantDecision) h
  case opened => exact (h.modDoor id).relatch keepsSize_grantDecision
  case stopped | paused => exact h.relatch keepsSize_grantDecision
  all_goals exact h

protected theorem SizeSound.readPosition {d : Doorway} {count : Nat} :
    SizeSound (readPosition d count s) :=
  ite_sizeSound (ite_sizeSound ((h.modDoor id).modDoor id) ((h.modDoor id).modDoor id).enterFault)
    ((h.modDoor id).modDoor id).afterReading

protected theorem SizeSound.judgeClosing {d : Doorway} {a : Attempt} {force : Nat} :
    SizeSound (judgeClosing d a force s) :=
  ite_sizeSound ((h.modDoor id).obstruct keepsSize_grantDecision)
    (ite_sizeSound
      (ite_sizeSound (((h.modDoor id).modDoor id).obstruct keepsSize_grantDecision)
        ((h.modDoor id).modDoor id))
      ((h.modDoor id).modDoor id))

protected theorem SizeSound.takeSample {d : Doorway} {current : Int} :
    SizeSound (takeSample d current s) := by
  unfold takeSample
  dsimp only
  split
  · exact h
  · refine ite_sizeSound h ?_
    generalize (s.door d).state = st
    cases st
    case closing => exact (h.modDoor id).judgeClosing
    case opening => exact ite_sizeSound (h.modDoor id).blockOpening (h.modDoor id)
    case reopening => exact ite_sizeSound (h.modDoor id).blockReopening (h.modDoor id)
    all_goals exact h

protected theorem SizeSound.changeEdge {d : Doorway} {pressed : Bool} :
    SizeSound (changeEdge d pressed s) := by
  refine ite_sizeSound h ?_
  split
  · exact ite_sizeSound ((h.modDoor id).obstruct keepsSize_grantDecision) (h.modDoor id)
  · exact h.modDoor id

protected theorem SizeSound.unlockedWhileUnlocking {d : Doorway} :
    SizeSound (unlockedWhileUnlocking d s) := ite_sizeSound h.enterFault (h.modDoor id).takeState

protected theorem SizeSound.lockedWhileReopening {d : Doorway} :
    SizeSound (lockedWhileReopening d s) := ite_sizeSound (h.stopMotion keepsSize_grantDecision) h

protected theorem SizeSound.changeLock {d : Doorway} {locked : Bool} :
    SizeSound (changeLock d locked s) := by
  refine ite_sizeSound h ?_
  generalize (s.door d).state = st
  cases st
  case locked => exact ite_sizeSound (h.modDoor id) (h.modDoor id).enterFault
  case unlocking => exact ite_sizeSound (h.modDoor id) (h.modDoor id).unlockedWhileUnlocking
  case locking =>
    exact ite_sizeSound ((h.modDoor id).lockMade keepsSize_grantDecision) (h.modDoor id)
  case opened | stopped | paused => exact (h.modDoor id).relatch keepsSize_grantDecision
  case reopening => exact ite_sizeSound (h.modDoor id).lockedWhileReopening (h.modDoor id)
  case isolated => exact (h.modDoor id).recomputeProof
  all_goals exact h.modDoor id

/-! ### The timers of a doorway -/

protected theorem SizeSound.unlockExpires {d : Doorway} : SizeSound (unlockExpires d s) :=
  ite_sizeSound
    (ite_sizeSound
      ((((h.modDoor id).modDoor id).takeState.releaseGrant keepsSize_grantDecision).setPending
        keepsSize_grantDecision)
      (h.modDoor id).enterFault)
    (h.modDoor id)

protected theorem SizeSound.lockExpires {d : Doorway} : SizeSound (lockExpires d s) :=
  ite_sizeSound ((h.modDoor id).obstruct keepsSize_grantDecision) (h.modDoor id)

protected theorem SizeSound.closeExpires {d : Doorway} : SizeSound (closeExpires d s) :=
  ite_sizeSound ((h.modDoor id).obstruct keepsSize_grantDecision) (h.modDoor id)

protected theorem SizeSound.stallExpires {d : Doorway} : SizeSound (stallExpires d s) := by
  unfold stallExpires
  dsimp only
  generalize (s.door d).state = st
  cases st
  case closing => exact (h.modDoor id).obstruct keepsSize_grantDecision
  case opening => exact (h.modDoor id).blockOpening
  case reopening => exact (h.modDoor id).blockReopening
  all_goals exact h.modDoor id

protected theorem SizeSound.pauseExpires {d : Doorway} : SizeSound (pauseExpires d s) := by
  unfold pauseExpires
  dsimp only
  split
  · exact (h.modDoor id).setPending keepsSize_grantDecision
  · exact ite_sizeSound ((h.modDoor id).setPending keepsSize_grantDecision)
      ((h.modDoor id).setPending keepsSize_grantDecision)
  · exact h.modDoor id

protected theorem SizeSound.holdExpires {d : Doorway} : SizeSound (holdExpires d s) :=
  ite_sizeSound (((h.modDoor id).modDoor id).postPending keepsSize_grantDecision) (h.modDoor id)

/-- R100: a late mark changes no queue's length. -/
protected theorem SizeSound.lateExpires {d : Doorway} : SizeSound (lateExpires d s) := by
  refine SizeSound.raiseBoth (h.modArbiter fun ha c => ?_)
  have hlength : ∀ q : List Entry, (markLate d q).length = q.length := fun q => List.length_map _
  cases c
  · exact Nat.le_trans (Nat.le_of_eq (hlength _)) (ha .urgent)
  · exact Nat.le_trans (Nat.le_of_eq (hlength _)) (ha .ordinary)

/-! ### Supply -/

protected theorem SizeSound.haltAtLoss {d : Doorway} : SizeSound (haltAtLoss d s) := by
  unfold haltAtLoss
  dsimp only
  generalize (s.door d).state = st
  cases st
  case unlocking | opening | closing | reopening => exact ((h.modDoor id).modDoor id).takeState
  all_goals exact h.modDoor id

/-- R105: the loss empties the queues. -/
protected theorem SizeSound.supplyLost : SizeSound (supplyLost s) := by
  refine SizeSound.forDoors (SizeSound.raiseBoth (h.modArbiter fun _ => ?_))
    fun _ _ h => h.haltAtLoss
  exact Arbiter.Sized.activatePair (Arbiter.sized_of_empty rfl rfl)

protected theorem SizeSound.repost {d : Doorway} : SizeSound (repost d s) :=
  ite_sizeSound (h.postPending keepsSize_id) h

protected theorem SizeSound.supplyRestored : SizeSound (supplyRestored s) :=
  keepsSize_grantDecision <|
    SizeSound.forDoors (SizeSound.raiseBoth (h.modArbiter id)) fun _ _ h => h.repost

end Book

end Sys2Proof.Machine
end

section
/-! The sizes under the platform link, the settings, the responses, the starts and the link ports;
and the step. -/

namespace Sys2Proof.Machine

open Sys2Proof

section Links

variable {s : State} (h : SizeSound s)
include h

/-! ### The platform link -/

protected theorem SizeSound.updateRecords {f : Frame} {i : Side} :
    SizeSound (updateRecords f i s) := by
  unfold updateRecords
  generalize i.doorways.zipIdx = places
  induction places generalizing s with
  | nil => exact h
  | cons place places ih => exact ih (h.modDoor id)

protected theorem SizeSound.answerHold {before : State} {d : Doorway} :
    SizeSound (answerHold before d s) := by
  unfold answerHold
  split
  · exact h.holdRises
  · exact h.endDeferral
  · exact h

protected theorem SizeSound.deliverFrame {f : Frame} {i : Side} : SizeSound (deliverFrame f i s) :=
  h.updateRecords.forDoors fun _ _ h => h.answerHold

protected theorem SizeSound.departLocked : SizeSound (departLocked s) :=
  h.modLink.clearPlatformRecords

protected theorem SizeSound.unlockLink : SizeSound (unlockLink s) := by
  unfold unlockLink
  generalize s.link.lock = was
  cases was
  case unlocked | quiescent => exact h.modLink
  case acquiring => exact h.modLink.raiseBoth
  case locked => exact h.modLink.raiseBoth.departLocked

protected theorem SizeSound.goodFrame {f : Frame} {i : Side} : SizeSound (goodFrame f i s) := by
  unfold goodFrame
  dsimp only
  split
  · exact h.modLink.modLink.raiseBoth
  · exact ite_sizeSound h.modLink.modLink.raiseBoth h.modLink.modLink
  · exact h.modLink.modLink.deliverFrame
  · exact h.modLink

protected theorem SizeSound.badFrame : SizeSound (badFrame s) := by
  unfold badFrame
  generalize s.link.lock = lock
  cases lock
  case unlocked => exact h.modLink
  case acquiring => exact h.unlockLink
  case locked => exact ite_sizeSound h.unlockLink h.modLink
  case quiescent => exact h

protected theorem SizeSound.takeFrame {f : Frame} : SizeSound (takeFrame f s) :=
  ite_sizeSound h
    (ite_sizeSound (h.withClamp fun _ _ h => ite_sizeSound h.goodFrame h.badFrame) h.badFrame)

protected theorem SizeSound.armTriggersActs {mask check : Byte} :
    SizeSound (armTriggersActs mask check s) := ite_sizeSound h.modLink h.countRefused

protected theorem SizeSound.linkResetActs : SizeSound (linkResetActs s) :=
  ite_sizeSound h h.unlockLink.departLocked

/-! ### Settings and the store -/

protected theorem SizeSound.applyFieldAt {q : Port} {i v : Nat} {d : Doorway} :
    SizeSound (applyFieldAt q i v d s) :=
  ite_sizeSound h.countRefused ((ite_sizeSound h h.countClamped).modDoor id)

protected theorem SizeSound.applyProfileField {q : Port} {mask : Byte} {i v : Nat} :
    SizeSound (applyProfileField q mask i v s) := h.forDoors fun _ _ h => h.applyFieldAt

protected theorem SizeSound.withSettings {c : CarSettings} :
    SizeSound { s with settings := c } := h

protected theorem SizeSound.writePair {pr : AllowancePair} : SizeSound (writePair pr s) := by
  have hwritten : SizeSound (({ s with settings :=
      { s.settings with allowance := pr.allowance, reserve := pr.reserve } } : State).modArbiter
        fun a => activatePair { a with pair := some pr }) :=
    h.withSettings.modArbiter fun ha => Arbiter.Sized.activatePair ha
  exact ite_sizeSound (keepsSize_grantDecision hwritten) hwritten

protected theorem SizeSound.applyCarSetting {q : Port} {i v : Nat} :
    SizeSound (applyCarSetting q i v s) := by
  unfold applyCarSetting
  dsimp only
  split
  case h_1 | h_2 => exact h.withClamp fun _ _ h => h.writePair
  case h_9 => exact (ite_sizeSound h h.countClamped).withSettings
  case h_10 => exact h
  all_goals exact h.withClamp fun _ _ h => h.withSettings

protected theorem SizeSound.loadStore : SizeSound (loadStore s) :=
  ite_sizeSound (h.withSettings.forDoors fun _ _ h => h.modDoor id)
    (h.withSettings.forDoors fun _ _ h => h.modDoor id).raiseBoth

protected theorem SizeSound.withStore {x : Store} : SizeSound { s with store := x } := h

protected theorem SizeSound.saveActs {q : Port} : SizeSound (saveActs q s) := by
  unfold saveActs
  split
  · exact h.countRefused
  · exact h.withStore

protected theorem SizeSound.saveCompletes : SizeSound (saveCompletes s) := h.withStore.raiseBoth

protected theorem SizeSound.resetReferencesActs {mask : Byte} :
    SizeSound (resetReferencesActs mask s) := h.forDoors fun _ _ h => h.modDoor id

/-- R53: a cleared history is empty. -/
protected theorem SizeSound.clearHistoryActs {mask : Byte} : SizeSound (clearHistoryActs mask s) :=
  h.forDoors fun _ _ h => h.modDoor fun _ => ⟨Nat.zero_le _, Nat.zero_le _⟩

protected theorem SizeSound.withCursor {c : Cursor} : SizeSound { s with cursor := c } := h

protected theorem SizeSound.setCursorActs {q : Port} {door segment : Byte} :
    SizeSound (setCursorActs q door segment s) :=
  h.withClamp fun _ _ h => h.withClamp fun _ _ h => h.withCursor

end Links

/-! ### Responses -/

theorem StatusCounts.sized_zero : StatusCounts.zero.Sized := by
  unfold StatusCounts.Sized
  decide

/-- R149: a port with room for one more response. -/
def RoomToAnswer (q : Port) (s : State) : Prop := SizeSound s ∧ (s.port q).responses.length < 2

/-- R149: a read is taken only where there is room for its response. -/
protected theorem SizeSound.takeRead {s : State} (h : SizeSound s) {q : Port} {c : Command}
    {take : State → State} (htake : RoomToAnswer q s → SizeSound (take s)) :
    SizeSound (takeRead q c take s) := by
  unfold takeRead
  split
  · exact h.countRefused
  · rename_i hfull
    exact htake ⟨h, Nat.lt_of_not_le fun hle => hfull (decide_eq_true hle)⟩

theorem RoomToAnswer.countClamped {q : Port} {s : State} (h : RoomToAnswer q s) :
    RoomToAnswer q (countClamped q s) := by
  obtain ⟨hsized, hroom⟩ := h
  refine ⟨hsized.countClamped, ?_⟩
  cases q <;> exact hroom

theorem RoomToAnswer.pushResponse {q : Port} {s : State} (h : RoomToAnswer q s) {code : Byte}
    {body : List Byte} : SizeSound (pushResponse q code body s) := by
  obtain ⟨hsized, hroom⟩ := h
  refine hsized.modPort fun ⟨_, hcounts⟩ => ⟨?_, hcounts⟩
  rw [List.length_append]
  exact hroom

theorem RoomToAnswer.withClamp {q : Port} {s : State} (h : RoomToAnswer q s) {lo hi v : Nat}
    {f : Nat → State → State} (hf : ∀ v s, RoomToAnswer q s → SizeSound (f v s)) :
    SizeSound (withClamp q lo hi v f s) := withClamp_induct h RoomToAnswer.countClamped hf

section Ports

variable {s : State} (h : SizeSound s)
include h

protected theorem SizeSound.readDoorwayActs {q : Port} {mask : Byte} :
    SizeSound (readDoorwayActs q mask s) := h.takeRead fun h => h.pushResponse

protected theorem SizeSound.readCarSummaryActs {q : Port} : SizeSound (readCarSummaryActs q s) :=
  h.takeRead fun h => h.pushResponse

/-- R154: the counts return to 0. -/
protected theorem SizeSound.readAttentionActs {q : Port} : SizeSound (readAttentionActs q s) :=
  h.takeRead fun h => h.pushResponse.modPort fun ⟨hresponses, _⟩ =>
    ⟨hresponses, StatusCounts.sized_zero⟩

protected theorem SizeSound.readHistoryActs {q : Port} {door : Byte} :
    SizeSound (readHistoryActs q door s) :=
  h.takeRead fun h => h.withClamp fun _ _ h => h.pushResponse

protected theorem SizeSound.readProfileActs {q : Port} {door : Byte} :
    SizeSound (readProfileActs q door s) :=
  h.takeRead fun h => h.withClamp fun _ _ h => h.pushResponse

protected theorem SizeSound.readReferencesActs {q : Port} {count : Byte} :
    SizeSound (readReferencesActs q count s) :=
  h.takeRead fun h => h.withClamp fun _ _ h => h.pushResponse.withCursor

/-! ### Starts, stand-down and wake -/

protected theorem SizeSound.startSide {i : Side} : SizeSound (startSide i s) :=
  (h.modSide id).startWatch

protected theorem SizeSound.announceFault {d : Doorway} : SizeSound (announceFault d s) :=
  ite_sizeSound h.raiseBoth h

protected theorem SizeSound.closeAtStart {d : Doorway} : SizeSound (closeAtStart d s) :=
  ite_sizeSound h.zeroSpeedCloseAt h

/-- A state that differs where nothing is counted, but for queues that are empty. -/
protected theorem SizeSound.withEmptyQueues {t : State}
    (hurgent : t.arbiter.urgent = []) (hordinary : t.arbiter.ordinary = [])
    (hdoors : t.doors = s.doors) (hsides : t.sides = s.sides) (hports : t.ports = s.ports) :
    SizeSound t := by
  obtain ⟨-, hd, hi, hq⟩ := sizeSound_iff.1 h
  refine sizeSound_iff.2 ⟨Arbiter.sized_of_empty hurgent hordinary, ?_⟩
  simp only [State.door, State.side, State.port, hdoors, hsides, hports]
  exact ⟨hd, hi, hq⟩

/-- R173: the queues of a start are empty, and no record of a doorway or a side gains a count. -/
protected theorem SizeSound.startEvent {cause : StartCause} {levels : InputLevels}
    {fallback : Door → Nat} : SizeSound (startEvent cause levels fallback s) := by
  refine SizeSound.forDoors
    (SizeSound.forDoors ((((h.withEmptyQueues ?_ ?_ ?_ ?_ ?_).forDoors
      fun _ _ h => h.modDoor id).modSide id).modSide id)
      fun _ _ h => h.announceFault).startSide.startSide.raiseBoth
    fun _ _ h => h.closeAtStart
  all_goals rfl

/-- R173: a power-on forgets every history, count and response. -/
protected theorem SizeSound.powerOnActs {levels : InputLevels} :
    SizeSound (powerOnActs levels s) := by
  obtain ⟨ha, -⟩ := sizeSound_iff.1 h
  refine SizeSound.startEvent (SizeSound.forDoors (SizeSound.loadStore ?_) fun _ _ h =>
    h.modDoor fun _ => ⟨Nat.zero_le _, Nat.zero_le _⟩)
  refine sizeSound_iff.2 ⟨ha, fun d => ?_, fun i => ?_, fun q => ?_⟩
  · rw [State.door, PerDoorway.get_const]; exact ⟨Nat.zero_le _, Nat.zero_le _⟩
  · rw [State.side, PerSide.get_const]; exact Nat.zero_le _
  · cases q <;> exact ⟨Nat.zero_le _, StatusCounts.sized_zero⟩

/-- R149, R174: the response being sent is finished; the other port has none. -/
protected theorem SizeSound.restartPorts : SizeSound (restartPorts s) := by
  obtain ⟨ha, hd, hi, -⟩ := sizeSound_iff.1 h
  have hone : ∀ l : List Response, (l.take 1).length ≤ 2 := fun l =>
    Nat.le_trans (List.length_take_le 1 l) (Nat.le_succ 1)
  refine sizeSound_iff.2 ⟨ha, hd, hi, fun q => ?_⟩
  cases q
  · exact ⟨hone _, StatusCounts.sized_zero⟩
  · exact ⟨Nat.zero_le _, StatusCounts.sized_zero⟩
  · exact ⟨hone _, StatusCounts.sized_zero⟩

/-- R110, R174: a restart keeps the monitor events of a side. -/
protected theorem SizeSound.restartSides :
    SizeSound { s with sides := { a := restartSide s.sides.a, b := restartSide s.sides.b } } := by
  obtain ⟨ha, hd, hi, hq⟩ := sizeSound_iff.1 h
  refine sizeSound_iff.2 ⟨ha, hd, fun i => ?_, hq⟩
  cases i
  · exact hi .A
  · exact hi .B

/-- R174: the histories and the overflow counts are kept. -/
protected theorem SizeSound.restartActs : SizeSound (restartActs s) :=
  (h.restartPorts.restartSides.forDoors fun _ _ h => h.modDoor id).startEvent

protected theorem SizeSound.quiesce : SizeSound (quiesce s) :=
  ite_sizeSound h.modLink.departLocked h.modLink

protected theorem SizeSound.stopWatch {i : Side} : SizeSound (stopWatch i s) := h.modSide id

protected theorem SizeSound.withStandDown {on : Bool} : SizeSound { s with standDown := on } := h

protected theorem SizeSound.withLastStart {cause : StartCause} :
    SizeSound { s with lastStart := cause } := h

protected theorem SizeSound.standDownActs : SizeSound (standDownActs s) :=
  ite_sizeSound h.countVoid h.withStandDown.abortTest.abortTest.stopWatch.stopWatch.quiesce

protected theorem SizeSound.wakeFirst : SizeSound (wakeFirst s) :=
  ite_sizeSound h.withStandDown.modLink.startWatch.startWatch.withLastStart.raiseBoth h

/-! ### Complete commands -/

protected theorem SizeSound.takeSideRelease {q : Port} {ps : List Byte} :
    SizeSound (takeSideRelease q ps s) :=
  h.withClamp fun _ _ h => h.withClamp fun _ _ h => ite_sizeSound h.sideReleaseActs h.countRefused

protected theorem SizeSound.takeWithdrawRelease {q : Port} {ps : List Byte} :
    SizeSound (takeWithdrawRelease q ps s) := h.withClamp fun _ _ h => h.recordRelease

protected theorem SizeSound.takeLoopTest {q : Port} {ps : List Byte} :
    SizeSound (takeLoopTest q ps s) :=
  h.withClamp fun _ _ h => ite_sizeSound h.startTest h.countRefused

protected theorem SizeSound.takeServiceMode {q : Port} {ps : List Byte} :
    SizeSound (takeServiceMode q ps s) :=
  h.withClamp fun _ _ h => ite_sizeSound (ite_sizeSound h.endServiceMode h)
    (ite_sizeSound h (ite_sizeSound h.withServiceMode h.countRefused))

protected theorem SizeSound.takeLocalOpen {q : Port} {ps : List Byte} :
    SizeSound (takeLocalOpen q ps s) := ite_sizeSound h.localOpenActs h.countRefused

protected theorem SizeSound.takeLocalClose {q : Port} {ps : List Byte} :
    SizeSound (takeLocalClose q ps s) := ite_sizeSound h.localCloseActs h.countRefused

/-- R140: every block that a complete command is handed to. -/
protected theorem SizeSound.handCommand {q : Port} {c : Command} {ps : List Byte} :
    SizeSound (handCommand q c ps s) := by
  cases c
  case presence | setAllowance | writeProfile | writeCarSettings => exact h
  case sideRelease => exact h.takeSideRelease
  case withdrawRelease => exact h.takeWithdrawRelease
  case carOpen => exact h.carOpenActs
  case carClose => exact h.carCloseActs
  case forcedClose => exact h.forcedCloseActs
  case loopTest => exact h.takeLoopTest
  case standDown => exact h.standDownActs
  case readDoorway => exact h.readDoorwayActs
  case readCarSummary => exact h.readCarSummaryActs
  case readAttention => exact h.readAttentionActs
  case readHistory => exact h.readHistoryActs
  case serviceMode => exact h.takeServiceMode
  case localOpen => exact h.takeLocalOpen
  case localClose => exact h.takeLocalClose
  case readProfile => exact h.readProfileActs
  case setCursor => exact h.setCursorActs
  case readReferences => exact h.readReferencesActs
  case resetReferences => exact h.resetReferencesActs
  case clearHistory => exact h.clearHistoryActs
  case saveSettings => exact h.saveActs
  case restore => exact h.restoreActs
  case restart => exact h.restartActs
  case platformStatus => exact h.takeFrame
  case armTriggers => exact h.armTriggersActs
  case linkReset => exact h.linkResetActs

/-! ### Bytes -/

protected theorem SizeSound.setContext {q : Port} {c : Context} : SizeSound (setContext q c s) :=
  h.modPort id

protected theorem SizeSound.applyArrived {q : Port} {c : Command} {ps : List Byte} :
    SizeSound (applyArrived q c ps s) := by
  cases c
  case setAllowance | writeCarSettings => exact ite_sizeSound h.applyCarSetting h
  case writeProfile => exact ite_sizeSound h.applyProfileField h
  all_goals exact h

protected theorem SizeSound.receiveParameter {q : Port} {b : Byte} :
    SizeSound (receiveParameter q b s) := by
  unfold receiveParameter
  split
  · exact h.countStray
  · exact h
  · exact ite_sizeSound h.setContext.applyArrived.setContext.handCommand
      h.setContext.applyArrived

protected theorem SizeSound.endContext {q : Port} : SizeSound (endContext q s) := by
  unfold endContext
  split
  · exact h.setContext.countTruncated
  all_goals exact h.setContext

protected theorem SizeSound.hearCar {q : Port} : SizeSound (hearCar q s) := by cases q <;> exact h

protected theorem SizeSound.examineCode {q : Port} {code : Byte} :
    SizeSound (examineCode q code s) := by
  unfold examineCode
  split
  · exact h.countUnknown.setContext
  · exact ite_sizeSound h.countRefused.setContext
      (ite_sizeSound h.setContext.handCommand h.setContext)

protected theorem SizeSound.receiveCommandByte {q : Port} {code : Byte} :
    SizeSound (receiveCommandByte q code s) :=
  (ite_sizeSound h.wakeFirst h).hearCar.endContext.examineCode

protected theorem SizeSound.commandArrives {q : Port} {c : Command} {ps : List Byte} :
    SizeSound (commandArrives q c ps s) := by
  unfold commandArrives
  have hcode : SizeSound (receiveCommandByte q c.code s) := h.receiveCommandByte
  generalize receiveCommandByte q c.code s = u at hcode
  induction ps generalizing u with
  | nil => exact hcode
  | cons b ps ih => exact ih _ hcode.receiveParameter

/-! ### Events -/

protected theorem SizeSound.changeReturn {i : Side} {closed : Bool} :
    SizeSound (changeReturn i closed s) := ite_sizeSound h (h.modSide id).examineSide

protected theorem SizeSound.lockSwitchChanges {d : Doorway} {locked : Bool} :
    SizeSound (lockSwitchChanges d locked s) := (ite_sizeSound h.wakeFirst h).changeLock

protected theorem SizeSound.handleOperated {d : Doorway} : SizeSound (handleOperated d s) :=
  ite_sizeSound h (h.wakeFirst.modDoor id).leaveControl

protected theorem SizeSound.handleRestored {d : Doorway} : SizeSound (handleRestored d s) :=
  ite_sizeSound (ite_sizeSound (h.modDoor id).returnEvaluation (h.modDoor id)) h

protected theorem SizeSound.isolationOperated {d : Doorway} : SizeSound (isolationOperated d s) :=
  ite_sizeSound h (ite_sizeSound (h.wakeFirst.modDoor id) (h.wakeFirst.modDoor id).leaveControl)

protected theorem SizeSound.isolationRestored {d : Doorway} : SizeSound (isolationRestored d s) :=
  ite_sizeSound (ite_sizeSound (h.wakeFirst.modDoor id).returnEvaluation (h.wakeFirst.modDoor id)) h

protected theorem SizeSound.overcurrentRises {d : Doorway} : SizeSound (overcurrentRises d s) :=
  ite_sizeSound h (ite_sizeSound (h.modDoor id) (h.modDoor id).enterFault)

protected theorem SizeSound.becomeSilent : SizeSound (becomeSilent s) := by
  have hsilent : SizeSound { s with carSilence := .silent } := h
  exact hsilent.raiseOn.withSilentDwell

/-- R149: the head leaves the response queue. -/
protected theorem SizeSound.dropResponse {q : Port} : SizeSound (dropResponse q s) :=
  h.modPort fun ⟨hresponses, hcounts⟩ =>
    ⟨Nat.le_trans (Nat.le_of_eq List.length_tail) (Nat.le_trans (Nat.sub_le _ _) hresponses),
      hcounts⟩

/-- A millisecond that passes changes no list and no count. -/
protected theorem SizeSound.timePasses : SizeSound (timePasses s) := by
  obtain ⟨ha, hd, hi, hq⟩ := sizeSound_iff.1 h
  refine sizeSound_iff.2 ⟨ha, fun d => ?_, hi, hq⟩
  rw [timePasses_door]
  exact hd d

end Ports

/-! ### The step -/

/-- What a powered part does and an unpowered part leaves alone. -/
theorem sizeSound_of_whenPowered {s t : State} {f : State → State}
    (ht : whenPowered s f = .next t) (h : SizeSound s) (hf : SizeSound (f s)) : SizeSound t := by
  unfold whenPowered at ht
  split at ht
  · exact Host.Outcome.next.inj ht ▸ hf
  · exact Host.Outcome.next.inj ht ▸ h

/-- R140: a row of the links is its command byte with its parameter bytes. -/
theorem exec_of_linkCommand {i : Instr} {q : Port} {c : Command} {ps : List Byte}
    (hi : i.linkCommand = some (q, c, ps)) (s : State) :
    exec i s = whenPowered s (commandArrives q c ps) := by
  cases i <;> cases hi <;> rfl

/-- Every command and event of the part keeps the sizes. -/
theorem exec_sizeSound {i : Instr} {s t : State} (h : SizeSound s) (ht : exec i s = .next t) :
    SizeSound t := by
  cases hi : i.linkCommand with
  | some carried =>
    obtain ⟨q, c, ps⟩ := carried
    rw [exec_of_linkCommand hi] at ht
    exact sizeSound_of_whenPowered ht h h.commandArrives
  | none =>
    cases i with
    | powerOn => exact Host.Outcome.next.inj ht ▸ h.powerOnActs
    | supplyLoss => exact sizeSound_of_whenPowered ht h (ite_sizeSound h.supplyLost h)
    | supplyRestore => exact sizeSound_of_whenPowered ht h (ite_sizeSound h.supplyRestored h)
    | zeroSpeedLoss => exact sizeSound_of_whenPowered ht h (ite_sizeSound h.zeroSpeedLost h)
    | zeroSpeedRegain =>
      change execZeroSpeedRegain s = _ at ht
      exact sizeSound_of_whenPowered ht h (ite_sizeSound h h.zeroSpeedRegained)
    | positionReading => exact sizeSound_of_whenPowered ht h h.readPosition
    | currentSample => exact sizeSound_of_whenPowered ht h h.takeSample
    | lockSwitchChange => exact sizeSound_of_whenPowered ht h h.lockSwitchChanges
    | edgeChange => exact sizeSound_of_whenPowered ht h h.changeEdge
    | emergencyHandleOperated => exact sizeSound_of_whenPowered ht h h.handleOperated
    | emergencyHandleRestored => exact sizeSound_of_whenPowered ht h h.handleRestored
    | isolationOperated => exact sizeSound_of_whenPowered ht h h.isolationOperated
    | isolationRestored => exact sizeSound_of_whenPowered ht h h.isolationRestored
    | driveOvercurrent => exact sizeSound_of_whenPowered ht h h.overcurrentRises
    | driveOvercurrentCleared => exact sizeSound_of_whenPowered ht h (h.modDoor id)
    | loopReturnChange => exact sizeSound_of_whenPowered ht h h.changeReturn
    | unlockTimerExpiry => exact sizeSound_of_whenPowered ht h (ite_sizeSound h.unlockExpires h)
    | lockTimerExpiry => exact sizeSound_of_whenPowered ht h (ite_sizeSound h.lockExpires h)
    | closeDeadlineExpiry => exact sizeSound_of_whenPowered ht h (ite_sizeSound h.closeExpires h)
    | stallWatchExpiry => exact sizeSound_of_whenPowered ht h (ite_sizeSound h.stallExpires h)
    | pauseTimerExpiry => exact sizeSound_of_whenPowered ht h (ite_sizeSound h.pauseExpires h)
    | holdDeadlineExpiry => exact sizeSound_of_whenPowered ht h (ite_sizeSound h.holdExpires h)
    | grantLate => exact sizeSound_of_whenPowered ht h (ite_sizeSound h.lateExpires h)
    | carSilenceExpiry => exact sizeSound_of_whenPowered ht h (ite_sizeSound h.becomeSilent h)
    | silentDwellTimerExpiry => exact sizeSound_of_whenPowered ht h (ite_sizeSound h.silentClose h)
    | openWatchExpiry => exact sizeSound_of_whenPowered ht h (ite_sizeSound h.declareLoopOpen h)
    | stuckWatchExpiry => exact sizeSound_of_whenPowered ht h (ite_sizeSound h.declareLoopStuck h)
    | testStepExpiry => exact sizeSound_of_whenPowered ht h (ite_sizeSound h.testStepEnds h)
    | goodFrameDeadlineExpiry =>
      exact sizeSound_of_whenPowered ht h (ite_sizeSound h.modLink.unlockLink h)
    | saveDone => exact sizeSound_of_whenPowered ht h (ite_sizeSound h.saveCompletes h)
    | responseSent => exact sizeSound_of_whenPowered ht h h.dropResponse
    | triggerSent => exact sizeSound_of_whenPowered ht h h.modLink
    | unknownCommand => exact sizeSound_of_whenPowered ht h h.receiveCommandByte
    | strayParameterByte => exact sizeSound_of_whenPowered ht h h.receiveParameter
    | lineBreak => exact sizeSound_of_whenPowered ht h h.endContext
    | damagedByte => exact sizeSound_of_whenPowered ht h h.endContext
    | partPowerLoss => exact sizeSound_of_whenPowered ht h h
    | _ => cases hi

theorem idle_sizeSound {s t : State} (h : SizeSound s) (ht : idle s = .next t) : SizeSound t := by
  unfold idle at ht
  split at ht
  · split at ht
    · exact exec_sizeSound h ht
    · exact Host.Outcome.next.inj ht ▸ h.timePasses
  · exact Host.Outcome.next.inj ht ▸ h

/-- Settles O15: the command at the front of the queue, or the idle part, keeps the sizes. -/
theorem everyStepKeepsTheListsInSize : Obligations.EveryStepKeepsTheListsInSize := by
  intro s t h ht
  unfold step at ht
  split at ht
  · rename_i c rest _
    have hrest : SizeSound { s with pending := rest } := h
    exact exec_sizeSound hrest ht
  · exact idle_sizeSound h ht

end Sys2Proof.Machine
end

section
/-! What an asserted proof output says of its side (R111, R16): the proof read condition by condition,
and the lock switch of a doorway that counts toward it. -/

namespace Sys2Proof.Machine

open Sys2Proof

/-- R111, first condition: the doorways that count are the LOCKED ones, whatever their switch reads, and
the ISOLATED ones with the switch reading locked. -/
theorem countsForProof_iff {r : Door} :
    countsForProof r = true ↔
      r.state = .locked ∨ r.state = .isolated ∧ r.inputs.lockLocked = true := by
  cases hr : r.state <;> simp [countsForProof, hr]

/-- R111: the three conditions of the proof. -/
theorem proofHolds_iff {s : State} {i : Side} :
    proofHolds s i = true ↔
      (∀ d ∈ i.doorways, countsForProof (s.door d) = true) ∧
        (s.side i).verdict ≠ .fail ∧ (s.side i).verdict ≠ .running := by
  simp [proofHolds, and_assoc]

/-- R111, R112: outside a running test the output line carries the proof as computed. -/
theorem ProofSound.output_eq_proofHolds {s : State} {i : Side} (h : ProofSound s)
    (hidle : (s.side i).verdict ≠ .running) : (s.side i).output = proofHolds s i := by
  obtain ⟨hproof, houtput, -, -⟩ := h i
  exact (houtput hidle).trans hproof

/-- R16, R111: a doorway that counts has its switch reading locked. The computation of the proof does not
read the switch of a LOCKED doorway; the soundness of the locks gives it. -/
theorem LockSound.latched_of_countsForProof {s : State} {d : Doorway} (h : LockSound s)
    (hcounts : countsForProof (s.door d) = true) :
    ((s.door d).state = .locked ∨ (s.door d).state = .isolated) ∧
      (s.door d).inputs.lockLocked = true := by
  rcases countsForProof_iff.mp hcounts with hlocked | ⟨hisolated, hswitch⟩
  · exact ⟨.inl hlocked, h d (.inl hlocked)⟩
  · exact ⟨.inr hisolated, hswitch⟩

/-- Settles O18: the asserted output is the proof as computed, and each doorway that counts toward that
proof is latched. -/
theorem anAssertedOutputMeansALatchedSide : Obligations.AnAssertedOutputMeansALatchedSide := by
  intro s i hproofs hlocks hidle hasserted
  have hholds : proofHolds s i = true := (hproofs.output_eq_proofHolds hidle).symm.trans hasserted
  obtain ⟨hcount, hnotFail, -⟩ := proofHolds_iff.mp hholds
  exact ⟨hnotFail, fun d hd => hlocks.latched_of_countsForProof (hcount d hd)⟩

end Sys2Proof.Machine
end

section
/-! The CRC of the platform link (R158). One bit of it is linear over exclusive or, and the register
determines the one before it; so a byte acts on the register only through their exclusive or, and injectively.
The remainder 0 after a row's own CRC and the damaged byte that is always seen both follow from that. -/

namespace Sys2Proof.Machine

open Sys2Proof

/-! ### One bit -/

/-- What one bit combines with the shifted register: 07h, or nothing. -/
def crcTap (differ : Bool) : Byte := if differ then 0x07#8 else 0#8

theorem crcTap_xor (p q : Bool) : crcTap (p ^^ q) = crcTap p ^^^ crcTap q := by
  cases p <;> cases q <;> rfl

/-- Whether two sums of bits differ is the sum of whether their parts do. -/
theorem bne_xor_xor : ∀ p q x y : Bool, ((p ^^ q) != (x ^^ y)) = ((p != x) ^^ (q != y)) := by
  decide

theorem crcBit_eq_xor_crcTap (reg : Byte) (bit : Bool) :
    crcBit reg bit = (reg <<< 1) ^^^ crcTap (reg.msb != bit) := by
  cases h : reg.msb != bit <;> simp [crcBit, crcTap, h]

/-- R158 as printed: 07h is combined where the bit shifted out and the data bit differ. -/
theorem crcBit_eq (reg : Byte) (bit : Bool) :
    crcBit reg bit = (reg <<< 1) ^^^ (if reg.getLsbD 7 = bit then 0#8 else 0x07#8) := by
  have hmsb : reg.msb = reg.getLsbD 7 := BitVec.msb_eq_getLsbD_last reg
  rw [crcBit_eq_xor_crcTap, hmsb]
  cases reg.getLsbD 7 <;> cases bit <;> rfl

/-- R158: the bit shifted out comes back with the data bit in the lowest place of 07h. -/
theorem crcBit_getLsbD_zero (reg : Byte) (bit : Bool) :
    (crcBit reg bit).getLsbD 0 = (reg.msb != bit) := by
  cases h : reg.msb != bit <;> simp [crcBit, h]

theorem crcBit_of_msb_eq {reg : Byte} {bit : Bool} (h : reg.msb = bit) : crcBit reg bit = reg <<< 1 := by
  simp [crcBit, h]

theorem crcBit_xor (r s : Byte) (x y : Bool) :
    crcBit (r ^^^ s) (x ^^ y) = crcBit r x ^^^ crcBit s y := by
  have hdiffer : ((r ^^^ s).msb != (x ^^ y)) = ((r.msb != x) ^^ (s.msb != y)) := by
    rw [BitVec.msb_xor, bne_xor_xor]
  simp only [crcBit_eq_xor_crcTap, hdiffer, crcTap_xor, BitVec.shiftLeft_xor_distrib]
  ac_rfl

/-- The lowest bit after the shift tells the bit shifted out, and the others are the register's. -/
theorem crcBit_injective (bit : Bool) : Function.Injective (crcBit · bit) := by
  intro r s (h : crcBit r bit = crcBit s bit)
  have hmsb : r.msb = s.msb := by
    have hlow := congrArg (·.getLsbD 0) h
    simp only [crcBit_getLsbD_zero] at hlow
    exact Bool.bne_left_inj.mp hlow
  have hshift : r <<< 1 = s <<< 1 := by
    rw [crcBit_eq_xor_crcTap, crcBit_eq_xor_crcTap, hmsb] at h
    exact (BitVec.xor_left_inj _).mp h
  simp only [BitVec.msb_eq_decide, decide_eq_decide] at hmsb
  simp only [← BitVec.toNat_inj, BitVec.toNat_shiftLeft, Nat.shiftLeft_eq] at hshift ⊢
  omega

/-! ### One byte -/

/-- R158: the bits of a byte in the order in which the register takes them. -/
theorem crcByte_eq_foldl_bits (reg byte : Byte) :
    crcByte reg byte =
      ([7, 6, 5, 4, 3, 2, 1, 0].map fun i => byte.getLsbD i).foldl crcBit reg := by
  rw [List.foldl_map]
  rfl

theorem crcByte_xor (r s a b : Byte) :
    crcByte (r ^^^ s) (a ^^^ b) = crcByte r a ^^^ crcByte s b := by
  unfold crcByte
  generalize [7, 6, 5, 4, 3, 2, 1, 0] = places
  induction places generalizing r s with
  | nil => rfl
  | cons i places ih =>
    have hbit : crcBit (r ^^^ s) ((a ^^^ b).getLsbD i) =
        crcBit r (a.getLsbD i) ^^^ crcBit s (b.getLsbD i) := by
      rw [BitVec.getLsbD_xor, crcBit_xor]
    simp only [List.foldl_cons]
    rw [hbit, ih]

/-- A register that holds the byte itself shifts out each data bit as it comes. -/
theorem foldl_crcBit_self (b : Byte) {n : Nat} (hn : n ≤ 8) :
    (List.range n).foldl (fun r i => crcBit r (b.getLsbD (7 - i))) b = b <<< n := by
  induction n with
  | zero => simp
  | succ n ih =>
    have hmsb : (b <<< n).msb = b.getLsbD (7 - n) := by
      have hlt : ¬ 7 < n := by omega
      simp only [BitVec.msb_eq_getLsbD_last, BitVec.getLsbD_shiftLeft]
      simp [hlt]
    rw [List.range_succ, List.foldl_append, ih (by omega)]
    exact (crcBit_of_msb_eq hmsb).trans (BitVec.shiftLeft_add b n 1).symm

theorem crcByte_self (b : Byte) : crcByte b b = 0#8 := by
  calc crcByte b b
      = (List.range 8).foldl (fun r i => crcBit r (b.getLsbD (7 - i))) b := rfl
    _ = b <<< 8 := foldl_crcBit_self b (Nat.le_refl 8)
    _ = 0#8 := BitVec.shiftLeft_eq_zero (Nat.le_refl 8)

/-- The byte and the register enter only through their exclusive or. -/
theorem crcByte_eq_crcByte_zero (reg byte : Byte) : crcByte reg byte = crcByte (reg ^^^ byte) 0#8 := by
  calc crcByte reg byte
      = crcByte ((reg ^^^ byte) ^^^ byte) (0#8 ^^^ byte) := by
        rw [BitVec.xor_assoc, BitVec.xor_self, BitVec.xor_zero, BitVec.zero_xor]
    _ = crcByte (reg ^^^ byte) 0#8 ^^^ crcByte byte byte := crcByte_xor _ _ _ _
    _ = crcByte (reg ^^^ byte) 0#8 := by rw [crcByte_self, BitVec.xor_zero]

theorem crcByte_injective_reg (byte : Byte) : Function.Injective (crcByte · byte) := by
  unfold crcByte
  generalize [7, 6, 5, 4, 3, 2, 1, 0] = places
  induction places with
  | nil => exact fun _ _ h => h
  | cons i places ih => exact ih.comp (crcBit_injective _)

theorem crcByte_injective_byte (reg : Byte) : Function.Injective (crcByte reg) := by
  intro a b h
  rw [crcByte_eq_crcByte_zero reg a, crcByte_eq_crcByte_zero reg b] at h
  exact (BitVec.xor_right_inj reg).mp (crcByte_injective_reg 0#8 h)

/-! ### A row of bytes -/

@[simp] theorem crc_nil : crc [] = 0 := rfl

@[simp] theorem crc_concat (bytes : List Byte) (b : Byte) :
    crc (bytes ++ [b]) = crcByte (crc bytes) b := by
  simp [crc, List.foldl_append]

theorem crc_concat_crc (bytes : List Byte) : crc (bytes ++ [crc bytes]) = 0 :=
  (crc_concat bytes _).trans (crcByte_self _)

theorem foldl_crcByte_injective (bytes : List Byte) :
    Function.Injective (fun reg => bytes.foldl crcByte reg) := by
  induction bytes with
  | nil => exact fun _ _ h => h
  | cons b bytes ih => exact ih.comp (crcByte_injective_reg b)

/-- R158: one damaged byte changes the register at its place, and no byte after it can undo that. -/
theorem eq_of_crc_eq {before after : List Byte} {a b : Byte}
    (h : crc (before ++ a :: after) = crc (before ++ b :: after)) : a = b := by
  simp only [crc, List.foldl_append, List.foldl_cons] at h
  exact crcByte_injective_byte _ (foldl_crcByte_injective after h)

/-- R158: the check values of the arithmetic. -/
theorem crc_check_values :
    crc [0x31, 0x32, 0x33, 0x34, 0x35, 0x36, 0x37, 0x38, 0x39] = 0xF4 ∧ crc [0x50] = 0xB7 := by
  decide +kernel

/-! ### The frames -/

theorem frameCrc_eq (f : Frame) :
    frameCrc f = crc [0x50, f.side, f.faced, f.panels, f.hold, f.sequence] := rfl

theorem armTriggersActs_of_locked {s : State} (hlocked : s.link.lock = .locked) (mask check : Byte) :
    armTriggersActs mask check s =
      if check = crc [0x51, mask] then
        { s with link := { s.link with armedReleased := mask.getLsbD 0, armedProven := mask.getLsbD 1 } }
      else countRefused .platform 0x51 s := by
  by_cases hcheck : check = crc [0x51, mask]
  · rw [if_pos hcheck]
    exact if_pos ⟨hlocked, hcheck⟩
  · rw [if_neg hcheck]
    exact if_neg fun ⟨_, hcorrect⟩ => hcheck hcorrect

/-- Settles O19: the fold over a byte's bits, the check values and the frames by the model's equations,
the remainder and the damaged byte by linearity and injectivity. -/
theorem theCrcIsThePolynomialRemainder : Obligations.TheCrcIsThePolynomialRemainder := by
  obtain ⟨hdigits, hcode⟩ := crc_check_values
  refine ⟨crc_nil, fun bytes b => ?_, hdigits, hcode, frameCrc_eq,
    fun mask check s hlocked => armTriggersActs_of_locked hlocked mask check,
    crc_concat_crc, fun before after a b => eq_of_crc_eq⟩
  have hstep : crcBit = fun (reg : Byte) bit =>
      (reg <<< 1) ^^^ (if reg.getLsbD 7 = bit then 0#8 else 0x07#8) := by
    funext reg bit
    exact crcBit_eq reg bit
  rw [crc_concat, crcByte_eq_foldl_bits, hstep]

end Sys2Proof.Machine
end

section
/-! What a part without power answers (log 4), and the soundness of the state after reset (R173). -/

namespace Sys2Proof.Machine

open Sys2Proof

/-! ### Without power -/

/-- R172, log 4: every meaning but that of POWER_ON asks for power before it acts. -/
theorem exec_eq_whenPowered {c : Instr} (hc : ∀ levels : InputLevels, c ≠ .powerOn levels) :
    ∃ f : State → State, ∀ s, exec c s = whenPowered s f := by
  cases c with
  | powerOn levels => exact absurd rfl (hc levels)
  | _ => exact ⟨_, fun _ => rfl⟩

/-- Settles O4: the meaning asks for power, and there is none. -/
theorem anUnpoweredPartAnswersPowerOnAlone : Obligations.AnUnpoweredPartAnswersPowerOnAlone := by
  intro c s hunpowered hc
  obtain ⟨f, hf⟩ := exec_eq_whenPowered hc
  exact (hf s).trans (whenPowered_unpowered hunpowered f)

/-! ### The records after reset -/

@[simp] theorem State.reset_door (d : Doorway) : State.reset.door d = Door.afterPowerOn :=
  PerDoorway.get_const _ d

@[simp] theorem State.reset_side (i : Side) : State.reset.side i = SideRecord.afterPowerOn := by
  cases i <;> rfl

/-- R139, R155: no port has a context, a count or a response. -/
theorem State.reset_port (q : Port) :
    ∃ attention, State.reset.port q = LinkPort.afterPowerOn attention := by
  cases q <;> exact ⟨_, rfl⟩

/-! ### The invariants at reset -/

/-- R111, R112: every doorway counts and no test has run, so both sides are proven and their outputs
are on. -/
theorem proofSound_reset : ProofSound State.reset := fun i => by cases i <;> decide

theorem lockSound_reset : LockSound State.reset := fun d _ => by rw [State.reset_door]; rfl

/-- R6, R92: nothing waits and no grant is held. -/
theorem requestSound_reset : RequestSound State.reset := by
  refine ⟨fun _ h => ?_, fun _ h => ?_, fun _ h => ?_, List.nodup_nil, fun d => ?_⟩
  · cases h
  · cases h
  · cases h
  · rw [State.reset_door]
    exact ⟨fun h => (by cases h), fun h => by cases h⟩

/-- R97: with no grant held both sums are 0. -/
theorem allowanceSound_reset : AllowanceSound State.reset :=
  ⟨requestSound_reset, rfl, rfl, Nat.zero_le _, Nat.zero_le _⟩

/-- R87: the part resets with zero speed, which leaves only what a pending motion would have to meet. -/
theorem zeroSpeedSound_reset : ZeroSpeedSound State.reset := by
  refine ⟨requestSound_reset, fun hmoving => (by cases hmoving), fun d => ⟨?_, ?_⟩⟩
  · rw [State.reset_door]
    intro m hm
    cases hm
  · intro hmoving
    cases hmoving

theorem decided_reset : Decided State.reset :=
  ⟨allowanceSound_reset, zeroSpeedSound_reset, rfl⟩

/-- R105: the supply is healthy and every coil is off. -/
theorem supplySound_reset : SupplySound State.reset := by
  refine ⟨fun d hcoil => ?_, fun hlost => ?_⟩
  · rw [State.reset_door] at hcoil
    cases hcoil
  · cases hlost

/-- R156, R157: the link is UNLOCKED with nothing armed, and no platform record stands. -/
theorem linkSound_reset : LinkSound State.reset := by
  refine ⟨by decide, fun _ d => ?_, fun d hdeferred => ?_, by decide, by decide, by decide, by decide,
    List.nodup_nil⟩
  · rw [State.reset_door]; rfl
  · rw [State.reset_door] at hdeferred
    cases hdeferred

theorem contextSound_reset : ContextSound State.reset := fun q => by
  obtain ⟨attention, hport⟩ := State.reset_port q
  rw [hport]
  rfl

/-- R5, R28: no coil and no drive is on, and the cap is that of no motion. -/
theorem outputSound_reset : OutputSound State.reset := by
  intro d
  rw [State.reset_door]
  exact ⟨fun hcoil => (by cases hcoil), Nat.zero_le _, fun _ hdrive => by cases hdrive⟩

theorem sizeSound_reset : SizeSound State.reset := by
  refine sizeSound_iff.2 ⟨Arbiter.sized_of_empty rfl rfl, fun d => ?_, fun i => ?_, fun q => ?_⟩
  · rw [State.reset_door]; exact ⟨Nat.zero_le _, Nat.zero_le _⟩
  · rw [State.reset_side]; exact Nat.zero_le _
  · obtain ⟨attention, hport⟩ := State.reset_port q
    rw [hport]
    exact ⟨Nat.zero_le _, StatusCounts.sized_zero⟩

/-! ### The defaults lie in their ranges -/

/-- R169. -/
theorem profileInRange_default : ProfileInRange Profile.default := by
  unfold ProfileInRange
  decide +kernel

/-- R168. -/
theorem settingsInRange_default : SettingsInRange CarSettings.default := by
  unfold SettingsInRange
  decide

theorem settingsSound_reset : SettingsSound State.reset := by
  refine ⟨settingsInRange_default, by unfold PairInRange; decide, fun _ hpair => (by cases hpair), rfl, rfl,
    fun d => ?_⟩
  rw [State.reset_door]
  exact ⟨profileInRange_default, by decide⟩

/-- Settles O17: each invariant holds of the records after reset. -/
theorem thePartAfterResetIsSound : Obligations.ThePartAfterResetIsSound :=
  ⟨proofSound_reset, lockSound_reset, allowanceSound_reset, decided_reset, supplySound_reset,
    zeroSpeedSound_reset, linkSound_reset, contextSound_reset, outputSound_reset, sizeSound_reset,
    settingsSound_reset⟩

end Sys2Proof.Machine
end

section
/-! The round trip of the store (R171, R172). Two facts carry it: a word of the snapshot is found at the place
from which the load reads it, and fields loaded in the order of WRITE PROFILE give back a profile in range,
because a field is bounded only by fields that stand before it. -/

namespace Sys2Proof.Machine

open Sys2Proof

/-! ### Values in range -/

theorem clampTo_of_mem {lo hi v : Nat} (hlo : lo ≤ v) (hhi : v ≤ hi) : clampTo lo hi v = v := by
  rw [clampTo, Nat.min_eq_right hhi, Nat.max_eq_right hlo]

theorem clampSilentDelay_of_mem {v : Nat} (h : v = 0 ∨ (10 ≤ v ∧ v ≤ 300)) : clampSilentDelay v = v := by
  rcases h with rfl | ⟨hlo, hhi⟩
  · rfl
  · rw [clampSilentDelay, if_neg (by omega), clampTo_of_mem hlo hhi]

theorem ProfileInRange.clampField_eq {r : Profile} (h : ProfileInRange r) {i : Nat} (hi : i < 25) :
    clampField r (i + 1) (profileField r (i + 1)) = profileField r (i + 1) :=
  h i (List.mem_range.mpr hi)

theorem ProfileInRange.lstroke_le {r : Profile} (h : ProfileInRange r) : r.lstroke ≤ 900 := by
  have hclamp : clampTo 400 900 r.lstroke = r.lstroke := h.clampField_eq (i := 0) (by decide)
  unfold clampTo at hclamp
  omega

theorem ProfileInRange.pz_le {r : Profile} (h : ProfileInRange r) : r.pz ≤ 120 := by
  have hclamp : min (clampTo 20 120 r.pz) (r.lstroke / 2) = r.pz := h.clampField_eq (i := 1) (by decide)
  unfold clampTo at hclamp
  omega

/-- R169: the highest upper end of a range is that of the kinetic energy; the two fields without an upper end
of their own are bounded by Lstroke and Pz. -/
theorem clampField_le {r : Profile} (hstroke : r.lstroke ≤ 20000) (hpz : r.pz ≤ 20000) (i v : Nat) :
    clampField r i v ≤ 20000 := by
  unfold clampField clampTo
  split <;> omega

/-- R169: every field in range fits into a word. -/
theorem ProfileInRange.profileField_lt {r : Profile} (h : ProfileInRange r) {i : Nat} (hi : i < 25) :
    profileField r (i + 1) < 65536 := by
  have hle := clampField_le (Nat.le_trans h.lstroke_le (by decide)) (Nat.le_trans h.pz_le (by decide))
    (i + 1) (profileField r (i + 1))
  rw [h.clampField_eq hi] at hle
  omega

/-! ### The fields of a profile in their order -/

/-- Two profiles agree in their first `n` fields. -/
def AgreeBefore (n : Nat) (q r : Profile) : Prop := ∀ j < n, profileField q (j + 1) = profileField r (j + 1)

/-- R146: the bound of a field is a field that stands before it. -/
theorem AgreeBefore.clampField_eq {q r : Profile} {i : Nat} (h : AgreeBefore i q r) (hi : i < 25) (v : Nat) :
    clampField q (i + 1) v = clampField r (i + 1) v := by
  match i, h with
  | 1, h =>
    have hstroke : q.lstroke = r.lstroke := h 0 (by decide)
    exact congrArg (fun bound => min (clampTo 20 120 v) (bound / 2)) hstroke
  | 6, h =>
    have hclose : q.vclose = r.vclose := h 4 (by decide)
    exact congrArg (min (clampTo 50 300 v)) hclose
  | 16, h =>
    have hpz : q.pz = r.pz := h 1 (by decide)
    exact congrArg (min v) hpz
  | 17, h =>
    have hstroke : q.lstroke = r.lstroke := h 0 (by decide)
    exact congrArg (min (max 50 v)) hstroke
  | 0, _ | 2, _ | 3, _ | 4, _ | 5, _ | 7, _ | 8, _ | 9, _ | 10, _ | 11, _ | 12, _ | 13, _ | 14, _
    | 15, _ | 18, _ | 19, _ | 20, _ | 21, _ | 22, _ | 23, _ | 24, _ => rfl
  | n + 25, _ => omega

/-- R145: a field that is written reads back; LearnEnable keeps only whether the value is 0. -/
theorem profileField_setField_same (r : Profile) {i v : Nat} (hi : i < 25) (hv : i = 24 → v ≤ 1) :
    profileField (setField r (i + 1) v) (i + 1) = v := by
  match i, hv with
  | 0, _ | 1, _ | 2, _ | 3, _ | 4, _ | 5, _ | 6, _ | 7, _ | 8, _ | 9, _ | 10, _ | 11, _ | 12, _
    | 13, _ | 14, _ | 15, _ | 16, _ | 17, _ | 18, _ | 19, _ | 20, _ | 21, _ | 22, _ | 23, _ => rfl
  | 24, hv =>
    match v, hv rfl with
    | 0, _ => rfl
    | 1, _ => rfl
  | n + 25, _ => omega

/-- R145, R146: the fields that a write brings down with it stand after the field written. Branch by branch of
the write, the field read is another one, or the branch is that of a field up to the one read. -/
theorem profileField_setField_before (r : Profile) {i j : Nat} (v : Nat) (hi : i < 25) (hj : j < i) :
    profileField (setField r (i + 1) v) (j + 1) = profileField r (j + 1) := by
  match j, hj with
  | 0, hj | 1, hj | 2, hj | 3, hj | 4, hj | 5, hj | 6, hj | 7, hj | 8, hj | 9, hj | 10, hj | 11, hj
    | 12, hj | 13, hj | 14, hj | 15, hj | 16, hj | 17, hj | 18, hj | 19, hj | 20, hj | 21, hj
    | 22, hj | 23, hj =>
    unfold setField
    split <;> first
      | rfl
      | exact absurd hj (by omega)
  | n + 24, hj => omega

theorem profileField_learnEnable_le (r : Profile) : profileField r 25 ≤ 1 := by
  change (if r.learnEnable then 1 else 0) ≤ 1
  split <;> decide

/-- The twenty-five fields are the whole profile. -/
theorem AgreeBefore.eq {q r : Profile} (h : AgreeBefore 25 q r) : q = r := by
  have hlearn : q.learnEnable = r.learnEnable := by
    have hfield : (if q.learnEnable then 1 else 0) = if r.learnEnable then 1 else 0 := h 24 (by decide)
    cases hq : q.learnEnable <;> cases hr : r.learnEnable <;> simp [hq, hr] at hfield ⊢
  have hfield : ∀ j < 24, profileField q (j + 1) = profileField r (j + 1) := fun j hj => h j (by omega)
  cases q
  cases r
  rw [Profile.mk.injEq]
  exact ⟨hfield 0 (by decide), hfield 1 (by decide), hfield 2 (by decide), hfield 3 (by decide),
    hfield 4 (by decide), hfield 5 (by decide), hfield 6 (by decide), hfield 7 (by decide),
    hfield 8 (by decide), hfield 9 (by decide), hfield 10 (by decide), hfield 11 (by decide),
    hfield 12 (by decide), hfield 13 (by decide), hfield 14 (by decide), hfield 15 (by decide),
    hfield 16 (by decide), hfield 17 (by decide), hfield 18 (by decide), hfield 19 (by decide),
    hfield 20 (by decide), hfield 21 (by decide), hfield 22 (by decide), hfield 23 (by decide), hlearn⟩

/-- R172: a field loaded with its value in a profile in range, after the fields before it, has that value. -/
theorem AgreeBefore.loadField_succ {q r : Profile} {i : Nat} (h : AgreeBefore i q r) (hr : ProfileInRange r)
    (hi : i < 25) : AgreeBefore (i + 1) (loadField q (i + 1) (profileField r (i + 1))) r := by
  have hvalue : loadField q (i + 1) (profileField r (i + 1)) =
      setField q (i + 1) (profileField r (i + 1)) := by
    rw [loadField, h.clampField_eq hi, hr.clampField_eq hi]
  rw [hvalue]
  intro j hj
  rcases Nat.lt_succ_iff_lt_or_eq.mp hj with hbefore | rfl
  · rw [profileField_setField_before q _ hi hbefore, h j hbefore]
  · refine profileField_setField_same q hi ?_
    rintro rfl
    exact profileField_learnEnable_le r

/-- R172: the fields of a profile in range, loaded in their order onto any profile, give that profile. -/
theorem foldl_loadField_eq {r : Profile} (hr : ProfileInRange r) (q : Profile) {value : Nat → Nat}
    (hvalue : ∀ i < 25, value i = profileField r (i + 1)) :
    (List.range 25).foldl (fun x i => loadField x (i + 1) (value i)) q = r := by
  have hagree : ∀ n ≤ 25,
      AgreeBefore n ((List.range n).foldl (fun x i => loadField x (i + 1) (value i)) q) r := by
    intro n hn
    induction n with
    | zero => exact fun j hj => absurd hj (Nat.not_lt_zero j)
    | succ n ih =>
      rw [List.range_succ, List.foldl_append, List.foldl_cons, List.foldl_nil, hvalue n hn]
      exact (ih (Nat.le_of_succ_le hn)).loadField_succ hr hn
  exact (hagree 25 (Nat.le_refl 25)).eq

/-! ### The words of a snapshot -/

/-- The copy that a completed save leaves. -/
def savedCopy (s : State) : StoreCopy :=
  { words := snapshot s, check := checkWord (snapshot s), cutOff := false }

/-- R171: `saveCompletes` leaves this copy of the snapshot that the save took. -/
theorem saveCompletes_copy {s u : State} (h : u.store.writing = snapshot s) :
    (saveCompletes u).store.copy = savedCopy s := by
  rw [savedCopy, ← h]
  rfl

/-- R172: a write that came to its end is valid. -/
theorem copyValid_savedCopy (s : State) : copyValid (savedCopy s) = true := by
  simp [copyValid, savedCopy]

theorem copyWord_eq {c : StoreCopy} {n v : Nat} (hword : c.words[n]? = some (BitVec.ofNat 16 v))
    (hv : v < 65536) : copyWord c n = v := by
  rw [copyWord, List.getD_eq_getElem?_getD, hword, Option.getD_some, BitVec.toNat_ofNat,
    Nat.mod_eq_of_lt hv]

/-- A row of blocks of one length: the place of a word is that of its block and its place in it. -/
theorem getElem?_flatMap_of_length {α β : Type} {f : α → List β} {n : Nat} {l : List α}
    (hf : ∀ x ∈ l, (f x).length = n) (k : Nat) {i : Nat} (hi : i < n) :
    (l.flatMap f)[n * k + i]? = l[k]?.bind fun x => (f x)[i]? := by
  induction l generalizing k with
  | nil => simp
  | cons x l ih =>
    have hx : (f x).length = n := hf x List.mem_cons_self
    rw [List.flatMap_cons]
    cases k with
    | zero => rw [List.getElem?_append_left (by omega)]; simp
    | succ k =>
      rw [List.getElem?_append_right (by rw [hx, Nat.mul_succ]; omega), hx, List.getElem?_cons_succ,
        ← ih (fun y hy => hf y (List.mem_cons_of_mem x hy)) k]
      congr 1
      rw [Nat.mul_succ]
      omega

theorem getElem?_all_number (d : Doorway) : Doorway.all[d.number - 1]? = some d := by cases d <;> rfl

/-- A row of blocks of one length, one for each doorway. -/
theorem getElem?_flatMap_all {β : Type} {f : Doorway → List β} {n : Nat} (hf : ∀ d, (f d).length = n)
    (d : Doorway) {i : Nat} (hi : i < n) :
    (Doorway.all.flatMap f)[n * (d.number - 1) + i]? = (f d)[i]? := by
  rw [getElem?_flatMap_of_length (fun x _ => hf x) _ hi, getElem?_all_number, Option.bind_some]

theorem length_flatMap_all {β : Type} {f : Doorway → List β} {n : Nat} (hf : ∀ d, (f d).length = n) :
    (Doorway.all.flatMap f).length = 8 * n := by
  simp only [Doorway.all, List.flatMap_cons, List.flatMap_nil, List.length_append, hf, List.length_nil]
  omega

theorem length_settingsWords (c : CarSettings) : (settingsWords c).length = 9 := rfl

theorem length_profileWords (r : Profile) : (profileWords r).length = 25 := rfl

theorem doorway_number_le (d : Doorway) : d.number - 1 ≤ 7 := by cases d <;> decide

theorem snapshot_setting (s : State) {i : Nat} (hi : i < 9) :
    (snapshot s)[i]? = (settingsWords s.settings)[i]? := by
  rw [snapshot, List.append_assoc, List.getElem?_append_left (by rw [length_settingsWords]; exact hi)]

theorem snapshot_field (s : State) (d : Doorway) {i : Nat} (hi : i < 25) :
    (snapshot s)[9 + 25 * (d.number - 1) + i]? =
      some (BitVec.ofNat 16 (profileField (s.door d).profile (i + 1))) := by
  have hlength : ∀ d, (profileWords (s.door d).profile).length = 25 := fun d => length_profileWords _
  have hnumber := doorway_number_le d
  rw [snapshot, List.append_assoc, Nat.add_assoc,
    List.getElem?_append_right (by rw [length_settingsWords]; omega), length_settingsWords,
    Nat.add_sub_cancel_left, List.getElem?_append_left (by rw [length_flatMap_all hlength]; omega),
    getElem?_flatMap_all hlength d hi, profileWords, List.getElem?_map, List.getElem?_range hi,
    Option.map_some]

theorem snapshot_reference (s : State) (hrefs : ∀ d, (s.door d).refs.length = 32) (d : Doorway) {i : Nat}
    (hi : i < 32) :
    (snapshot s)[209 + 32 * (d.number - 1) + i]? =
      some (BitVec.ofNat 16 ((s.door d).refs[i]'(by rw [hrefs]; exact hi))) := by
  have hprofiles : ∀ d, (profileWords (s.door d).profile).length = 25 := fun d => length_profileWords _
  have hlength : ∀ d, ((s.door d).refs.map (BitVec.ofNat 16)).length = 32 := fun d => by
    rw [List.length_map, hrefs]
  have hbefore : (settingsWords s.settings ++
      Doorway.all.flatMap fun d => profileWords (s.door d).profile).length = 209 := by
    rw [List.length_append, length_settingsWords, length_flatMap_all hprofiles]
  rw [snapshot, Nat.add_assoc, List.getElem?_append_right (by rw [hbefore]; omega), hbefore,
    Nat.add_sub_cancel_left, getElem?_flatMap_all hlength d hi, List.getElem?_map,
    List.getElem?_eq_getElem (by rw [hrefs]; exact hi), Option.map_some]

/-! ### The load of a saved copy -/

theorem copyWord_savedCopy_setting (s : State) {i v : Nat} (hi : i < 9)
    (hword : (settingsWords s.settings)[i]? = some (BitVec.ofNat 16 v)) (hv : v < 65536) :
    copyWord (savedCopy s) i = v :=
  copyWord_eq ((snapshot_setting s hi).trans hword) hv

theorem loadSettings_savedCopy {s : State} (h : SettingsInRange s.settings) :
    loadSettings (savedCopy s) = s.settings := by
  obtain ⟨⟨hallowance, hallowance'⟩, hreserve, ⟨hopen, hopen'⟩, ⟨hclose, hclose'⟩, ⟨hreopen, hreopen'⟩,
    ⟨hlate, hlate'⟩, hhold, ⟨hsilence, hsilence'⟩, hdelay⟩ := h
  simp only [loadSettings,
    copyWord_savedCopy_setting s (i := 0) (by decide) rfl (by omega : s.settings.allowance < 65536),
    copyWord_savedCopy_setting s (i := 1) (by decide) rfl (by omega : s.settings.reserve < 65536),
    copyWord_savedCopy_setting s (i := 2) (by decide) rfl (by omega : s.settings.aopen < 65536),
    copyWord_savedCopy_setting s (i := 3) (by decide) rfl (by omega : s.settings.aclose < 65536),
    copyWord_savedCopy_setting s (i := 4) (by decide) rfl (by omega : s.settings.areopen < 65536),
    copyWord_savedCopy_setting s (i := 5) (by decide) rfl (by omega : s.settings.grantLate < 65536),
    copyWord_savedCopy_setting s (i := 6) (by decide) rfl (by omega : s.settings.holdLimit < 65536),
    copyWord_savedCopy_setting s (i := 7) (by decide) rfl (by omega : s.settings.carSilence < 65536),
    copyWord_savedCopy_setting s (i := 8) (by decide) rfl
      (by omega : s.settings.silentCloseDelay < 65536),
    clampTo_of_mem hallowance hallowance', Nat.min_eq_left hreserve, clampTo_of_mem hopen hopen',
    clampTo_of_mem hclose hclose', clampTo_of_mem hreopen hreopen', clampTo_of_mem hlate hlate',
    clampTo_of_mem (Nat.zero_le _) hhold, clampTo_of_mem hsilence hsilence',
    clampSilentDelay_of_mem hdelay]

theorem loadProfile_savedCopy (s : State) {d : Doorway} (h : ProfileInRange (s.door d).profile) :
    loadProfile (savedCopy s) d = (s.door d).profile :=
  foldl_loadField_eq h Profile.default fun _ hi => copyWord_eq (snapshot_field s d hi) (h.profileField_lt hi)

theorem loadRefs_savedCopy {s : State} (hrefs : ∀ d, (s.door d).refs.length = 32) {d : Doorway}
    (hrange : ∀ r ∈ (s.door d).refs, r ≤ 1023) : loadRefs (savedCopy s) d = (s.door d).refs := by
  refine List.ext_getElem (by rw [loadRefs, List.length_map, List.length_range, hrefs]; rfl)
    fun i _ hi => ?_
  have hle := hrange _ (List.getElem_mem hi)
  have hword := copyWord_eq (c := savedCopy s) (snapshot_reference s hrefs d (hrefs d ▸ hi)) (by omega)
  simp only [loadRefs, List.getElem_map, List.getElem_range]
  exact (congrArg (min 1023) hword).trans (Nat.min_eq_right hle)

/-- Settles O24: settings, profile and references of a saved copy, each loaded from its place. -/
theorem aSavedCopyLoadsBackWhole : Obligations.ASavedCopyLoadsBackWhole := by
  intro s d hsound
  obtain ⟨hsettings, -, -, -, -, hdoors⟩ := hsound
  obtain ⟨hprofile, -, hrange, -⟩ := hdoors d
  have hrefs : ∀ d, (s.door d).refs.length = 32 := fun d =>
    let ⟨_, hlength, _⟩ := hdoors d
    hlength
  exact ⟨copyValid_savedCopy s, loadSettings_savedCopy hsettings, loadProfile_savedCopy s hprofile,
    loadRefs_savedCopy hrefs hrange⟩

end Sys2Proof.Machine
end

section
/-! The lines of a link (R141, R178): what a receiver makes of a character's eleven levels, whole or with
its stop bit at space, and of the characters, breaks and damaged bytes that follow each other on a line. -/

namespace Sys2Proof.Machine

open Sys2Proof

/-! ### The bits of a byte -/

theorem testBit_foldr_bits (bits : List Bool) (i : Nat) :
    (bits.foldr (fun (b : Bool) (n : Nat) => (if b then 1 else 0) + 2 * n) 0).testBit i = bits.getD i false := by
  induction bits generalizing i with
  | nil => exact Nat.zero_testBit i
  | cons b bits ih =>
    rw [List.foldr_cons, Nat.add_comm]
    cases i with
    | zero => cases b <;> simp
    | succ i =>
      rw [Nat.testBit_succ, List.getD_cons_succ, ← ih]
      congr 1
      split <;> omega

theorem getLsbD_bitsByte (bits : List Bool) {i : Nat} (hi : i < 8) :
    (bitsByte bits).getLsbD i = bits.getD i false := by
  rw [bitsByte, BitVec.getLsbD_ofNat, testBit_foldr_bits, decide_eq_true hi, Bool.true_and]

/-- A byte is read back from its bits, the least significant first. -/
theorem bitsByte_getLsbD (b : Byte) : bitsByte ((List.range 8).map b.getLsbD) = b := by
  refine BitVec.eq_of_getLsbD_eq fun i hi => ?_
  have hread : ((List.range 8).map b.getLsbD)[i]? = some (b.getLsbD i) := by
    rw [List.getElem?_map, List.getElem?_range hi, Option.map_some]
  rw [getLsbD_bitsByte _ hi, List.getD_eq_getElem?_getD, hread, Option.getD_some]

theorem all_space_iff_zero (b : Byte) :
    (((List.range 8).map b.getLsbD).all fun x => !x) = true ↔ b = 0 := by
  simp only [List.all_map, List.all_eq_true, List.mem_range, Function.comp_apply, Bool.not_eq_true']
  refine ⟨fun h => BitVec.eq_of_getLsbD_eq fun i hi => ?_, ?_⟩
  · exact (h i hi).trans BitVec.getLsbD_zero.symm
  · rintro rfl i -
    exact BitVec.getLsbD_zero

/-! ### One character -/

/-- R141: what a character is received as, by its mark bit and its data. -/
def characterReception (mark : Bool) (b : Byte) : Reception :=
  if mark then .commandByte b else .parameterByte b

/-- R178: the levels of a character that has its stop bit at space. -/
def spoiledBits (mark : Bool) (b : Byte) : List Bool := (characterBits mark b).take 10 ++ [false]

/-- The stop bit at mark tells the character from a break and from a damaged byte. -/
theorem classifyCharacter_characterBits (mark : Bool) (b : Byte) :
    classifyCharacter (characterBits mark b) = characterReception mark b := by
  have hspace : ((characterBits mark b).all fun x => !x) = false :=
    List.all_eq_false.mpr ⟨true, by simp [characterBits], by decide⟩
  have hdata : ((characterBits mark b).drop 1).take 8 = (List.range 8).map b.getLsbD := rfl
  rw [classifyCharacter, hspace, hdata, bitsByte_getLsbD]
  cases mark <;> rfl

theorem all_spoiledBits (mark : Bool) (b : Byte) :
    ((spoiledBits mark b).all fun x => !x) = true ↔ mark = false ∧ b = 0 := by
  have hlevels : spoiledBits mark b = false :: ((List.range 8).map b.getLsbD ++ [mark, false]) := rfl
  rw [hlevels, List.all_cons, List.all_append, Bool.and_eq_true, Bool.and_eq_true, all_space_iff_zero]
  simp [and_comm]

/-- With the stop bit at space the character is damaged, unless no level of it is at mark. -/
theorem classifyCharacter_spoiledBits (mark : Bool) (b : Byte) :
    classifyCharacter (spoiledBits mark b) =
      if mark = false ∧ b = 0 then .broken else .damaged := by
  have hstop : (spoiledBits mark b).getD 10 false = false := rfl
  simp only [classifyCharacter, all_spoiledBits, if_pos hstop]

/-! ### Lines -/

/-- After a character the line is at mark, so what follows is heard on its own. -/
theorem receptions_characterBits_append (mark : Bool) (b : Byte) (line : List Bool) :
    receptions (characterBits mark b ++ line) = characterReception mark b :: receptions line :=
  (heard_eleven ..).trans (congrArg (· :: receptions line) (classifyCharacter_characterBits mark b))

/-- After a spoiled stop bit nothing is heard until the line has returned to mark. -/
theorem receptions_spoiledBits_append (mark : Bool) (b : Byte) (n : Nat) (line : List Bool) :
    receptions (spoiledBits mark b ++ (List.replicate n false ++ true :: line)) =
      classifyCharacter (spoiledBits mark b) :: receptions line :=
  (heard_eleven ..).trans
    (congrArg (classifyCharacter (spoiledBits mark b) :: ·) (heard_space_run n line))

theorem receptions_paused_characters (characters : List (Nat × Bool × Byte)) :
    receptions (characters.flatMap fun c => List.replicate c.1 true ++ characterBits c.2.1 c.2.2) =
      characters.map fun c => characterReception c.2.1 c.2.2 := by
  induction characters with
  | nil => rfl
  | cons c characters ih =>
    rw [List.flatMap_cons, List.append_assoc, receptions_pause, receptions_characterBits_append, ih,
      List.map_cons]

/-- Characters back to back are those after pauses of length 0. -/
theorem receptions_lineOf (characters : List (Bool × Byte)) :
    receptions (lineOf characters) = characters.map fun c => characterReception c.1 c.2 := by
  have h := receptions_paused_characters (characters.map (Prod.mk 0))
  rwa [List.flatMap_map, List.map_map] at h

/-- The eleven levels of a break are those of the parameter byte 0 with its stop bit at space. -/
theorem receptions_break (n : Nat) (line : List Bool) :
    receptions (List.replicate (11 + n) false ++ true :: line) = .broken :: receptions line := by
  rw [← List.replicate_append_replicate, List.append_assoc]
  exact receptions_spoiledBits_append false 0 n line

theorem receptions_responseLine (r : Response) :
    receptions (responseLine r) = .commandByte r.code :: r.body.map .parameterByte := by
  rw [responseLine, receptions_lineOf, responseCharacters, List.map_cons, List.map_map]
  rfl

theorem receptions_triggerLine (t : Trigger) :
    receptions (triggerLine t) =
      [.commandByte (match t.kind with | .sideReleased => 0x60 | .sideProven => 0x61),
       .parameterByte (match t.side with | .A => 0 | .B => 1)] := by
  rw [triggerLine, receptions_lineOf]
  obtain ⟨kind, side⟩ := t
  cases kind <;> cases side <;> rfl

/-- R140: each reception of a command's line is the byte that the row takes in its turn. -/
theorem hearLine_commandCharacters (q : Port) (c : Command) (ps : List Byte) (s : State) :
    hearLine q (lineOf (commandCharacters c ps)) s = commandArrives q c ps s := by
  rw [hearLine, receptions_lineOf, commandCharacters, List.map_cons, List.map_map, List.foldl_cons,
    List.foldl_map]
  rfl

/-- Settles O23: the character whole and spoiled, then the lines, each from the characters on it. -/
theorem aCharacterIsReadBackAsItWasSent : Obligations.ACharacterIsReadBackAsItWasSent := by
  intro b
  refine ⟨classifyCharacter_characterBits true b, classifyCharacter_characterBits false b, ?_, ?_,
    classifyCharacter_spoiledBits false 0, receptions_paused_characters, receptions_break, ?_,
    receptions_responseLine, receptions_triggerLine, hearLine_commandCharacters⟩
  · exact (classifyCharacter_spoiledBits true b).trans (if_neg (by simp))
  · exact (classifyCharacter_spoiledBits false b).trans (by simp only [true_and])
  · intro n line hb
    have hdamaged : classifyCharacter (spoiledBits false b) = .damaged :=
      (classifyCharacter_spoiledBits false b).trans (if_neg fun ⟨_, hzero⟩ => hb hzero)
    rw [List.append_assoc, ← hdamaged]
    exact receptions_spoiledBits_append false b n line

end Sys2Proof.Machine
end
